-- ==== Sys2Proof/Word.lean ====
section
/-! DEFINITION. The words of the MELPS 740 (rules R7, R20, R60): every register but PC, and every memory access, is
one byte; an address is 16 bits; a bit instruction's field `b` is 3 bits. -/

namespace Sys2Proof

/-- One byte: A, X, Y, S, and every memory access (R7). -/
abbrev Byte := BitVec 8

/-- A 16-bit address, and the program counter (R7, R60). -/
abbrev Addr := BitVec 16

/-- A bit number 0..7, the field `b` of the bit instructions (R96). -/
abbrev BitNo := BitVec 3

end Sys2Proof
end

