-- ==== Sys2Proof/Config.lean ====
section
/-! DEFINITION. What one family member fixes (rules R2 and R6, parameters P1 to P21), and the values the spec leaves
free (`draw(n)` of R9). A configuration is plain data; State carries it and no step changes it, so a statement about
every state is a statement about every family member and every admissible parameter. -/

namespace Sys2Proof

/-- The rows of the family-member table, R2. -/
inductive Part where
  /-- M50740A-XXXSP, M50740ASP, M50741-XXXSP -/
  | m50740
  /-- M50752-XXXSP, M50757-XXXSP, M50758-XXXSP -/
  | m50752
  /-- Series 7450 -/
  | series7450
  /-- Series 7470 -/
  | series7470
  /-- Series 38000 -/
  | series38000
  /-- M37424M8-XXXSP, M37524M4-XXXSP -/
  | m37424
  /-- any other MELPS 740 part -/
  | other
  deriving DecidableEq, Repr

/-- P7 `HAS_FST_SLW`, the column "FST, SLW" of R2. -/
def Part.hasFstSlw : Part → Bool
  | .m50740 => true
  | .m50752 => true
  | .series7450 => false
  | .series7470 => false
  | .series38000 => false
  | .m37424 => false
  | .other => false

/-- P6 `HAS_MUL_DIV`, the column "MUL, DIV" of R2. -/
def Part.hasMulDiv : Part → Bool
  | .m50740 => false
  | .m50752 => false
  | .series7450 => true
  | .series7470 => false
  | .series38000 => true
  | .m37424 => true
  | .other => false

/-- P8 `HAS_WIT`, the column "WIT" of R2. -/
def Part.hasWit : Part → Bool
  | .m50740 => false
  | .m50752 => false
  | .series7450 => true
  | .series7470 => true
  | .series38000 => true
  | .m37424 => true
  | .other => true

/-- P9 `HAS_STP`, the column "STP" of R2. -/
def Part.hasStp : Part → Bool
  | .m50740 => true
  | .m50752 => false
  | .series7450 => true
  | .series7470 => true
  | .series38000 => true
  | .m37424 => false
  | .other => true

/-- P10 `PLP_NEEDS_NOP`, the column "NOP needed after PLP" of R2. -/
def Part.plpNeedsNop : Part → Bool
  | .series38000 => false
  | .m50740 | .m50752 | .series7450 | .series7470 | .m37424 | .other => true

/-- P11 `BRK_BUG`, the column "BRK bug" of R2. -/
def Part.brkBug : Part → Bool
  | .series38000 => false
  | .m50740 | .m50752 | .series7450 | .series7470 | .m37424 | .other => true

/-- P12 `BRK_VECTOR_INDEPENDENT`, the column "independent BRK vector" of R2 (not stated = shared by default). -/
def Part.brkVectorIndependent : Part → Bool
  | .series7450 | .series7470 | .series38000 => true
  | .m50740 | .m50752 | .m37424 | .other => false

/-- What a read gives at an address that is neither RAM nor ROM (R68, P17). The control bits that the CPU rules name
always read as they are held (R40, R41); the rule says what the other bits of the byte read as. That P17 takes these
values is the model's choice (log entry 21). -/
inductive ReadRule where
  /-- the byte held there: a register that reads back what it holds -/
  | held
  /-- any value, the environment's (R68; the spec's default for an unmapped address, U28) -/
  | environment
  /-- a constant: a register of fixed value, a bus that idles at one value -/
  | fixed (v : Byte)
  deriving DecidableEq, Repr

/-- What a write does to each bit of the byte held at an address (P17), by disjoint masks. A bit in none of them keeps
its value. -/
structure BitWrites where
  /-- the bit becomes the bit written -/
  written : Byte
  /-- a 0 clears the bit, a 1 leaves it -/
  clearedBy0 : Byte
  /-- a 1 clears the bit, a 0 leaves it -/
  clearedBy1 : Byte
  /-- a 1 sets the bit, a 0 leaves it -/
  setBy1 : Byte
  /-- the bit becomes any value, the environment's -/
  free : Byte
  deriving DecidableEq, Repr

/-- The effect that P17 gives a write at an address that is not RAM (R69; the values are the model's choice, log entry
21). -/
inductive WriteRule where
  /-- the byte written is held, as in RAM -/
  | store
  /-- nothing happens (the spec's default for ROM and unmapped addresses, U28) -/
  | ignore
  /-- each bit has its own effect -/
  | bits (b : BitWrites)
  deriving DecidableEq, Repr

/-- What an access to an address with nothing behind it does (P17; R66: "mirroring, open bus"). -/
inductive Hole where
  /-- open bus: a read and a write as the two rules say -/
  | bus (onRead : ReadRule) (onWrite : WriteRule)
  /-- the access goes to the address `base` plus the address's bits in `mask` instead -/
  | mirror (base mask : Addr)
  deriving DecidableEq, Repr

/-- What stands at an address, with the behaviour that P17 leaves to the platform. -/
inductive RegionKind where
  /-- a read gives the last byte written, a write changes that byte (R68, R69) -/
  | ram
  /-- a read gives the programmed byte (R68) -/
  | rom (onWrite : WriteRule)
  /-- SFR or I/O -/
  | io (onRead : ReadRule) (onWrite : WriteRule)
  /-- nothing -/
  | unmapped (hole : Hole)
  deriving DecidableEq, Repr

/-- A stretch `first .. last` (both included) of the memory map P17. -/
structure Region where
  first : Addr
  last  : Addr
  kind  : RegionKind
  deriving DecidableEq, Repr

/-- One bit of one byte of memory: where a control bit stands (P3, P15). -/
structure BitLoc where
  addr : Addr
  bit  : BitNo
  deriving DecidableEq, Repr

/-- One record of `IRQ_SOURCES` (P15): its name, its vector, its request and enable bits (R41, R311) and the values these two
take at reset (R44: "OPEN (P15)"). Its priority is its place in the list, the highest first (R317). -/
structure IrqSource where
  name        : String
  vector      : Addr
  request     : BitLoc
  enable      : BitLoc
  requestReset : Bool
  enableReset  : Bool
  deriving DecidableEq, Repr

/-- P19 `IRQ_ACK`: what accepting an interrupt does to its request bit (R327). -/
inductive IrqAck where
  | clear
  | leave
  deriving DecidableEq, Repr

/-- P16 `BRK_PUSH_OFFSET` (R275, D12). -/
inductive BrkOffset where
  | one
  | two
  deriving DecidableEq, Repr

/-- P21 `JMP_IND_LAST_BYTE`: `JMP (abs)` whose operand low byte is FF (R133, R357). -/
inductive JmpIndLastByte where
  /-- the spec's own value: no next state (D4) -/
  | refuse
  /-- a platform that reads the high byte at the page's first address -/
  | samePage
  /-- a platform that reads the high byte at the next address -/
  | nextPage
  deriving DecidableEq, Repr

/-- P20 `WAKE_EVENTS` of one stopped state (R304): the interrupt sources whose request ends it, and whether an event
that is no interrupt request can. Reset always does. -/
structure WakeEvents where
  sources  : List Nat
  external : Bool
  deriving DecidableEq, Repr

/-- The implementation parameters of R6. -/
structure Config where
  /-- P6 to P12, by the table of R2 -/
  part : Part
  /-- P1 -/
  specialPageHi : Byte
  /-- P2 -/
  hasSps : Bool
  /-- P3: the zero-page address of the Stack Page Selection Bit -/
  spsAddr : Byte
  /-- P3: its bit number -/
  spsBit : BitNo
  /-- P4 -/
  spsReset : Bool
  /-- P5 -/
  stackPageFixedHi : Byte
  /-- P13 -/
  vecReset : Addr
  /-- P14, where the part has an independent BRK vector (or no interrupt source) -/
  vecBrkOwn : Addr
  /-- P15, the highest priority first -/
  sources : List IrqSource
  /-- P16 -/
  brkOffset : BrkOffset
  /-- P17 from 0000 to `ADDR_TOP`; the first region that holds an address decides -/
  memoryMap : List Region
  /-- P17 above `ADDR_TOP` (R29, R66), and at an address that the map puts in no region -/
  hole : Hole
  /-- P19 -/
  irqAck : IrqAck
  /-- P20 for STP -/
  wakeStp : WakeEvents
  /-- P20 for WIT -/
  wakeWit : WakeEvents
  /-- P21 -/
  jmpIndLastByte : JmpIndLastByte
  deriving DecidableEq, Repr

/-- The parameters of State.reset. DESIGN CHOICE (log entry 1): the spec leaves them OPEN. Series 38000 (it has every
instruction but FST and SLW, and neither the PLP nor the BRK restriction), special page FF (the default of P1), RAM at
every address, the defaults of U28 elsewhere, the stack fixed in page 1 and VEC_BRK at FFF4 (the conventions of the spec's vectors), VEC_RESET at
FFFE, no interrupt source. -/
def Config.atReset : Config where
  part := .series38000
  specialPageHi := 0xFF#8
  hasSps := false
  spsAddr := 0x00#8
  spsBit := 0#3
  spsReset := true
  stackPageFixedHi := 0x01#8
  vecReset := 0xFFFE#16
  vecBrkOwn := 0xFFF4#16
  sources := []
  brkOffset := .one
  memoryMap := [⟨0x0000#16, 0xFFFF#16, .ram⟩]
  hole := .bus .environment .ignore
  irqAck := .clear
  wakeStp := ⟨[], true⟩
  wakeWit := ⟨[], true⟩
  jmpIndLastByte := .refuse

/-- The byte accesses one step can make (R74); a free value of one access is named by it. -/
inductive Access where
  | opcode | operand1 | operand2
  | pointerLo | pointerHi
  | data | dataHi
  | dest
  | pull1 | pull2 | pull3
  | vectorLo | vectorHi
  deriving DecidableEq, Repr

/-- The places where the spec says `draw(n)`, one name each. -/
inductive Draw where
  /-- a byte of an unmapped or I/O address (R68, U28) -/
  | read (access : Access)
  /-- the bits of a byte that a write to the address leaves to the environment (R69, P17) -/
  | write (address : Addr)
  /-- a request bit read by the instruction after the one that wrote it (R354) -/
  | request (access : Access)
  /-- the same bit as the acceptance condition sees it (R354) -/
  | accept (source : Nat)
  /-- decimal ADC and SBC (R182, R183) -/
  | decimalResult | decimalC | decimalN | decimalV | decimalZ
  /-- DIV by zero or with a quotient over 255 (R200) -/
  | divQuotient | divPushed
  /-- the flags as the instruction after PLP sees them (R353) -/
  | plpN | plpV | plpT | plpD | plpI | plpZ | plpC
  /-- C and D after a SEC, CLC or CLD right after a decimal ADC or SBC (R356) -/
  | hazardC | hazardD
  /-- reset (R350) -/
  | resetA | resetX | resetY | resetS
  | resetN | resetV | resetT | resetD | resetZ | resetC
  deriving DecidableEq, Repr

/-- FREE VALUE (log entry 3): the 8-bit value drawn at the step numbered by State's `tick`. No body: nothing can be
proved of it. -/
opaque Config.freeByte : Nat → Draw → Byte

/-- FREE VALUE (log entry 3): the 1-bit value drawn at the step numbered by State's `tick`. -/
opaque Config.freeBit : Nat → Draw → Bool

end Sys2Proof
end

