-- ==== Sys2Proof/Syntax.lean ====
section
/-! DEFINITION. The instructions: one constructor per row of spec/opcode_table.json (rule R98), and the table's own
columns about them (mnemonic, addressing mode, data operand). Operands are what the bytes after the opcode hold:
`v` immediate data, `z` a zero-page address, `a` an absolute address, `r` a signed branch offset, `l` the low byte of
a special-page address, `b` the bit number in the opcode (rules R92, R93, R96). -/

namespace Sys2Proof

/-- The 73 mnemonics (R1, R98). -/
inductive Mnemonic where
  | lda | ldx | ldy | ldm | sta | stx | sty | tax | tay | tsx | txa | txs | tya | pha | php | pla | plp
  | adc | sbc | and | ora | eor | cmp | cpx | cpy | bit | tst | com | inc | dec | inx | iny | dex | dey | mul | div
  | asl | lsr | rol | ror | rrf | clb | seb
  | clc | sec | cld | sed | cli | sei | clt | set | clv
  | jmp | jsr | rts | rti | bcc | bcs | beq | bne | bmi | bpl | bvc | bvs | bra | bbc | bbs | brk | nop
  | stp | wit | fst | slw
  deriving DecidableEq, Repr

/-- The 19 addressing modes of R120 (the two BIT columns hold two modes each). -/
inductive Mode where
  | imp | imm | acc | zp | zpX | zpY | abs | absX | absY | ind | zpInd | indX | indY | rel | sp
  | bitA | bitZp | bitARel | bitZpRel
  deriving DecidableEq, Repr

/-- The memory operands whose effective address is a byte that the instruction reads or writes (R123 to R128, R131,
R132). -/
inductive MemOperand where
  | zp (z : Byte) | zpX (z : Byte) | zpY (z : Byte)
  | abs (a : Addr) | absX (a : Addr) | absY (a : Addr)
  | indX (z : Byte) | indY (z : Byte)
  deriving DecidableEq, Repr

/-- The data operand of an instruction: immediate (R121), the accumulator (R122) or a byte of memory. -/
inductive Operand where
  | imm (v : Byte)
  | acc
  | mem (m : MemOperand)
  deriving DecidableEq, Repr

/-- One constructor per row of the opcode table (R98). -/
inductive Instr where
  -- Load, store, transfer, stack (41_load_store_transfer.md)
  | ldaImm (v : Byte)
  | ldaZp (z : Byte)
  | ldaZpX (z : Byte)
  | ldaAbs (a : Addr)
  | ldaAbsX (a : Addr)
  | ldaAbsY (a : Addr)
  | ldaIndX (z : Byte)
  | ldaIndY (z : Byte)
  | ldxImm (v : Byte)
  | ldxZp (z : Byte)
  | ldxZpY (z : Byte)
  | ldxAbs (a : Addr)
  | ldxAbsY (a : Addr)
  | ldyImm (v : Byte)
  | ldyZp (z : Byte)
  | ldyZpX (z : Byte)
  | ldyAbs (a : Addr)
  | ldyAbsX (a : Addr)
  | ldm (v : Byte) (z : Byte)
  | staZp (z : Byte)
  | staZpX (z : Byte)
  | staAbs (a : Addr)
  | staAbsX (a : Addr)
  | staAbsY (a : Addr)
  | staIndX (z : Byte)
  | staIndY (z : Byte)
  | stxZp (z : Byte)
  | stxZpY (z : Byte)
  | stxAbs (a : Addr)
  | styZp (z : Byte)
  | styZpX (z : Byte)
  | styAbs (a : Addr)
  | tax
  | tay
  | tsx
  | txa
  | txs
  | tya
  | pha
  | php
  | pla
  | plp
  -- Arithmetic, logic, compare (42_arithmetic_logic.md)
  | adcImm (v : Byte)
  | adcZp (z : Byte)
  | adcZpX (z : Byte)
  | adcAbs (a : Addr)
  | adcAbsX (a : Addr)
  | adcAbsY (a : Addr)
  | adcIndX (z : Byte)
  | adcIndY (z : Byte)
  | sbcImm (v : Byte)
  | sbcZp (z : Byte)
  | sbcZpX (z : Byte)
  | sbcAbs (a : Addr)
  | sbcAbsX (a : Addr)
  | sbcAbsY (a : Addr)
  | sbcIndX (z : Byte)
  | sbcIndY (z : Byte)
  | andImm (v : Byte)
  | andZp (z : Byte)
  | andZpX (z : Byte)
  | andAbs (a : Addr)
  | andAbsX (a : Addr)
  | andAbsY (a : Addr)
  | andIndX (z : Byte)
  | andIndY (z : Byte)
  | oraImm (v : Byte)
  | oraZp (z : Byte)
  | oraZpX (z : Byte)
  | oraAbs (a : Addr)
  | oraAbsX (a : Addr)
  | oraAbsY (a : Addr)
  | oraIndX (z : Byte)
  | oraIndY (z : Byte)
  | eorImm (v : Byte)
  | eorZp (z : Byte)
  | eorZpX (z : Byte)
  | eorAbs (a : Addr)
  | eorAbsX (a : Addr)
  | eorAbsY (a : Addr)
  | eorIndX (z : Byte)
  | eorIndY (z : Byte)
  | cmpImm (v : Byte)
  | cmpZp (z : Byte)
  | cmpZpX (z : Byte)
  | cmpAbs (a : Addr)
  | cmpAbsX (a : Addr)
  | cmpAbsY (a : Addr)
  | cmpIndX (z : Byte)
  | cmpIndY (z : Byte)
  | cpxImm (v : Byte)
  | cpxZp (z : Byte)
  | cpxAbs (a : Addr)
  | cpyImm (v : Byte)
  | cpyZp (z : Byte)
  | cpyAbs (a : Addr)
  | bitZp (z : Byte)
  | bitAbs (a : Addr)
  | tstZp (z : Byte)
  | comZp (z : Byte)
  | incA
  | incZp (z : Byte)
  | incZpX (z : Byte)
  | incAbs (a : Addr)
  | incAbsX (a : Addr)
  | decA
  | decZp (z : Byte)
  | decZpX (z : Byte)
  | decAbs (a : Addr)
  | decAbsX (a : Addr)
  | inx
  | iny
  | dex
  | dey
  | mulZpX (z : Byte)
  | divZpX (z : Byte)
  -- Shift, rotate, bit set and clear (43_shift_rotate_bit.md)
  | aslA
  | aslZp (z : Byte)
  | aslZpX (z : Byte)
  | aslAbs (a : Addr)
  | aslAbsX (a : Addr)
  | lsrA
  | lsrZp (z : Byte)
  | lsrZpX (z : Byte)
  | lsrAbs (a : Addr)
  | lsrAbsX (a : Addr)
  | rolA
  | rolZp (z : Byte)
  | rolZpX (z : Byte)
  | rolAbs (a : Addr)
  | rolAbsX (a : Addr)
  | rorA
  | rorZp (z : Byte)
  | rorZpX (z : Byte)
  | rorAbs (a : Addr)
  | rorAbsX (a : Addr)
  | rrfZp (z : Byte)
  | clbA (b : BitNo)
  | clbZp (b : BitNo) (z : Byte)
  | sebA (b : BitNo)
  | sebZp (b : BitNo) (z : Byte)
  -- Flags (44_flag_instructions.md)
  | clc
  | sec
  | cld
  | sed
  | cli
  | sei
  | clt
  | set
  | clv
  -- Control transfer (45_control_transfer.md)
  | jmpAbs (a : Addr)
  | jmpInd (a : Addr)
  | jmpZpInd (z : Byte)
  | jsrAbs (a : Addr)
  | jsrZpInd (z : Byte)
  | jsrSp (l : Byte)
  | rts
  | rti
  | bcc (r : Byte)
  | bcs (r : Byte)
  | beq (r : Byte)
  | bne (r : Byte)
  | bmi (r : Byte)
  | bpl (r : Byte)
  | bvc (r : Byte)
  | bvs (r : Byte)
  | bra (r : Byte)
  | bbcA (b : BitNo) (r : Byte)
  | bbcZp (b : BitNo) (z : Byte) (r : Byte)
  | bbsA (b : BitNo) (r : Byte)
  | bbsZp (b : BitNo) (z : Byte) (r : Byte)
  | brk
  | nop
  -- Clock control (46_clock_control.md)
  | stp
  | wit
  | fst
  | slw
  deriving DecidableEq, Repr

/-- The row's mnemonic (R98). -/
def Instr.mnemonic : Instr → Mnemonic
  | .ldaImm _ => .lda
  | .ldaZp _ => .lda
  | .ldaZpX _ => .lda
  | .ldaAbs _ => .lda
  | .ldaAbsX _ => .lda
  | .ldaAbsY _ => .lda
  | .ldaIndX _ => .lda
  | .ldaIndY _ => .lda
  | .ldxImm _ => .ldx
  | .ldxZp _ => .ldx
  | .ldxZpY _ => .ldx
  | .ldxAbs _ => .ldx
  | .ldxAbsY _ => .ldx
  | .ldyImm _ => .ldy
  | .ldyZp _ => .ldy
  | .ldyZpX _ => .ldy
  | .ldyAbs _ => .ldy
  | .ldyAbsX _ => .ldy
  | .ldm _ _ => .ldm
  | .staZp _ => .sta
  | .staZpX _ => .sta
  | .staAbs _ => .sta
  | .staAbsX _ => .sta
  | .staAbsY _ => .sta
  | .staIndX _ => .sta
  | .staIndY _ => .sta
  | .stxZp _ => .stx
  | .stxZpY _ => .stx
  | .stxAbs _ => .stx
  | .styZp _ => .sty
  | .styZpX _ => .sty
  | .styAbs _ => .sty
  | .tax => .tax
  | .tay => .tay
  | .tsx => .tsx
  | .txa => .txa
  | .txs => .txs
  | .tya => .tya
  | .pha => .pha
  | .php => .php
  | .pla => .pla
  | .plp => .plp
  | .adcImm _ => .adc
  | .adcZp _ => .adc
  | .adcZpX _ => .adc
  | .adcAbs _ => .adc
  | .adcAbsX _ => .adc
  | .adcAbsY _ => .adc
  | .adcIndX _ => .adc
  | .adcIndY _ => .adc
  | .sbcImm _ => .sbc
  | .sbcZp _ => .sbc
  | .sbcZpX _ => .sbc
  | .sbcAbs _ => .sbc
  | .sbcAbsX _ => .sbc
  | .sbcAbsY _ => .sbc
  | .sbcIndX _ => .sbc
  | .sbcIndY _ => .sbc
  | .andImm _ => .and
  | .andZp _ => .and
  | .andZpX _ => .and
  | .andAbs _ => .and
  | .andAbsX _ => .and
  | .andAbsY _ => .and
  | .andIndX _ => .and
  | .andIndY _ => .and
  | .oraImm _ => .ora
  | .oraZp _ => .ora
  | .oraZpX _ => .ora
  | .oraAbs _ => .ora
  | .oraAbsX _ => .ora
  | .oraAbsY _ => .ora
  | .oraIndX _ => .ora
  | .oraIndY _ => .ora
  | .eorImm _ => .eor
  | .eorZp _ => .eor
  | .eorZpX _ => .eor
  | .eorAbs _ => .eor
  | .eorAbsX _ => .eor
  | .eorAbsY _ => .eor
  | .eorIndX _ => .eor
  | .eorIndY _ => .eor
  | .cmpImm _ => .cmp
  | .cmpZp _ => .cmp
  | .cmpZpX _ => .cmp
  | .cmpAbs _ => .cmp
  | .cmpAbsX _ => .cmp
  | .cmpAbsY _ => .cmp
  | .cmpIndX _ => .cmp
  | .cmpIndY _ => .cmp
  | .cpxImm _ => .cpx
  | .cpxZp _ => .cpx
  | .cpxAbs _ => .cpx
  | .cpyImm _ => .cpy
  | .cpyZp _ => .cpy
  | .cpyAbs _ => .cpy
  | .bitZp _ => .bit
  | .bitAbs _ => .bit
  | .tstZp _ => .tst
  | .comZp _ => .com
  | .incA => .inc
  | .incZp _ => .inc
  | .incZpX _ => .inc
  | .incAbs _ => .inc
  | .incAbsX _ => .inc
  | .decA => .dec
  | .decZp _ => .dec
  | .decZpX _ => .dec
  | .decAbs _ => .dec
  | .decAbsX _ => .dec
  | .inx => .inx
  | .iny => .iny
  | .dex => .dex
  | .dey => .dey
  | .mulZpX _ => .mul
  | .divZpX _ => .div
  | .aslA => .asl
  | .aslZp _ => .asl
  | .aslZpX _ => .asl
  | .aslAbs _ => .asl
  | .aslAbsX _ => .asl
  | .lsrA => .lsr
  | .lsrZp _ => .lsr
  | .lsrZpX _ => .lsr
  | .lsrAbs _ => .lsr
  | .lsrAbsX _ => .lsr
  | .rolA => .rol
  | .rolZp _ => .rol
  | .rolZpX _ => .rol
  | .rolAbs _ => .rol
  | .rolAbsX _ => .rol
  | .rorA => .ror
  | .rorZp _ => .ror
  | .rorZpX _ => .ror
  | .rorAbs _ => .ror
  | .rorAbsX _ => .ror
  | .rrfZp _ => .rrf
  | .clbA _ => .clb
  | .clbZp _ _ => .clb
  | .sebA _ => .seb
  | .sebZp _ _ => .seb
  | .clc => .clc
  | .sec => .sec
  | .cld => .cld
  | .sed => .sed
  | .cli => .cli
  | .sei => .sei
  | .clt => .clt
  | .set => .set
  | .clv => .clv
  | .jmpAbs _ => .jmp
  | .jmpInd _ => .jmp
  | .jmpZpInd _ => .jmp
  | .jsrAbs _ => .jsr
  | .jsrZpInd _ => .jsr
  | .jsrSp _ => .jsr
  | .rts => .rts
  | .rti => .rti
  | .bcc _ => .bcc
  | .bcs _ => .bcs
  | .beq _ => .beq
  | .bne _ => .bne
  | .bmi _ => .bmi
  | .bpl _ => .bpl
  | .bvc _ => .bvc
  | .bvs _ => .bvs
  | .bra _ => .bra
  | .bbcA _ _ => .bbc
  | .bbcZp _ _ _ => .bbc
  | .bbsA _ _ => .bbs
  | .bbsZp _ _ _ => .bbs
  | .brk => .brk
  | .nop => .nop
  | .stp => .stp
  | .wit => .wit
  | .fst => .fst
  | .slw => .slw

/-- The row's addressing mode (R98, R120). -/
def Instr.mode : Instr → Mode
  | .ldaImm _ => .imm
  | .ldaZp _ => .zp
  | .ldaZpX _ => .zpX
  | .ldaAbs _ => .abs
  | .ldaAbsX _ => .absX
  | .ldaAbsY _ => .absY
  | .ldaIndX _ => .indX
  | .ldaIndY _ => .indY
  | .ldxImm _ => .imm
  | .ldxZp _ => .zp
  | .ldxZpY _ => .zpY
  | .ldxAbs _ => .abs
  | .ldxAbsY _ => .absY
  | .ldyImm _ => .imm
  | .ldyZp _ => .zp
  | .ldyZpX _ => .zpX
  | .ldyAbs _ => .abs
  | .ldyAbsX _ => .absX
  | .ldm _ _ => .zp
  | .staZp _ => .zp
  | .staZpX _ => .zpX
  | .staAbs _ => .abs
  | .staAbsX _ => .absX
  | .staAbsY _ => .absY
  | .staIndX _ => .indX
  | .staIndY _ => .indY
  | .stxZp _ => .zp
  | .stxZpY _ => .zpY
  | .stxAbs _ => .abs
  | .styZp _ => .zp
  | .styZpX _ => .zpX
  | .styAbs _ => .abs
  | .tax => .imp
  | .tay => .imp
  | .tsx => .imp
  | .txa => .imp
  | .txs => .imp
  | .tya => .imp
  | .pha => .imp
  | .php => .imp
  | .pla => .imp
  | .plp => .imp
  | .adcImm _ => .imm
  | .adcZp _ => .zp
  | .adcZpX _ => .zpX
  | .adcAbs _ => .abs
  | .adcAbsX _ => .absX
  | .adcAbsY _ => .absY
  | .adcIndX _ => .indX
  | .adcIndY _ => .indY
  | .sbcImm _ => .imm
  | .sbcZp _ => .zp
  | .sbcZpX _ => .zpX
  | .sbcAbs _ => .abs
  | .sbcAbsX _ => .absX
  | .sbcAbsY _ => .absY
  | .sbcIndX _ => .indX
  | .sbcIndY _ => .indY
  | .andImm _ => .imm
  | .andZp _ => .zp
  | .andZpX _ => .zpX
  | .andAbs _ => .abs
  | .andAbsX _ => .absX
  | .andAbsY _ => .absY
  | .andIndX _ => .indX
  | .andIndY _ => .indY
  | .oraImm _ => .imm
  | .oraZp _ => .zp
  | .oraZpX _ => .zpX
  | .oraAbs _ => .abs
  | .oraAbsX _ => .absX
  | .oraAbsY _ => .absY
  | .oraIndX _ => .indX
  | .oraIndY _ => .indY
  | .eorImm _ => .imm
  | .eorZp _ => .zp
  | .eorZpX _ => .zpX
  | .eorAbs _ => .abs
  | .eorAbsX _ => .absX
  | .eorAbsY _ => .absY
  | .eorIndX _ => .indX
  | .eorIndY _ => .indY
  | .cmpImm _ => .imm
  | .cmpZp _ => .zp
  | .cmpZpX _ => .zpX
  | .cmpAbs _ => .abs
  | .cmpAbsX _ => .absX
  | .cmpAbsY _ => .absY
  | .cmpIndX _ => .indX
  | .cmpIndY _ => .indY
  | .cpxImm _ => .imm
  | .cpxZp _ => .zp
  | .cpxAbs _ => .abs
  | .cpyImm _ => .imm
  | .cpyZp _ => .zp
  | .cpyAbs _ => .abs
  | .bitZp _ => .zp
  | .bitAbs _ => .abs
  | .tstZp _ => .zp
  | .comZp _ => .zp
  | .incA => .acc
  | .incZp _ => .zp
  | .incZpX _ => .zpX
  | .incAbs _ => .abs
  | .incAbsX _ => .absX
  | .decA => .acc
  | .decZp _ => .zp
  | .decZpX _ => .zpX
  | .decAbs _ => .abs
  | .decAbsX _ => .absX
  | .inx => .imp
  | .iny => .imp
  | .dex => .imp
  | .dey => .imp
  | .mulZpX _ => .zpX
  | .divZpX _ => .zpX
  | .aslA => .acc
  | .aslZp _ => .zp
  | .aslZpX _ => .zpX
  | .aslAbs _ => .abs
  | .aslAbsX _ => .absX
  | .lsrA => .acc
  | .lsrZp _ => .zp
  | .lsrZpX _ => .zpX
  | .lsrAbs _ => .abs
  | .lsrAbsX _ => .absX
  | .rolA => .acc
  | .rolZp _ => .zp
  | .rolZpX _ => .zpX
  | .rolAbs _ => .abs
  | .rolAbsX _ => .absX
  | .rorA => .acc
  | .rorZp _ => .zp
  | .rorZpX _ => .zpX
  | .rorAbs _ => .abs
  | .rorAbsX _ => .absX
  | .rrfZp _ => .zp
  | .clbA _ => .bitA
  | .clbZp _ _ => .bitZp
  | .sebA _ => .bitA
  | .sebZp _ _ => .bitZp
  | .clc => .imp
  | .sec => .imp
  | .cld => .imp
  | .sed => .imp
  | .cli => .imp
  | .sei => .imp
  | .clt => .imp
  | .set => .imp
  | .clv => .imp
  | .jmpAbs _ => .abs
  | .jmpInd _ => .ind
  | .jmpZpInd _ => .zpInd
  | .jsrAbs _ => .abs
  | .jsrZpInd _ => .zpInd
  | .jsrSp _ => .sp
  | .rts => .imp
  | .rti => .imp
  | .bcc _ => .rel
  | .bcs _ => .rel
  | .beq _ => .rel
  | .bne _ => .rel
  | .bmi _ => .rel
  | .bpl _ => .rel
  | .bvc _ => .rel
  | .bvs _ => .rel
  | .bra _ => .rel
  | .bbcA _ _ => .bitARel
  | .bbcZp _ _ _ => .bitZpRel
  | .bbsA _ _ => .bitARel
  | .bbsZp _ _ _ => .bitZpRel
  | .brk => .imp
  | .nop => .imp
  | .stp => .imp
  | .wit => .imp
  | .fst => .imp
  | .slw => .imp

/-- The data operand of the instructions whose mode names one: IMM, A and the modes with an effective address; none for
the implied, bit, relative, jump and LDM forms, which say their operands themselves. -/
def Instr.operand? : Instr → Option Operand
  | .ldaImm v => some (.imm v)
  | .ldaZp z => some (.mem (.zp z))
  | .ldaZpX z => some (.mem (.zpX z))
  | .ldaAbs a => some (.mem (.abs a))
  | .ldaAbsX a => some (.mem (.absX a))
  | .ldaAbsY a => some (.mem (.absY a))
  | .ldaIndX z => some (.mem (.indX z))
  | .ldaIndY z => some (.mem (.indY z))
  | .ldxImm v => some (.imm v)
  | .ldxZp z => some (.mem (.zp z))
  | .ldxZpY z => some (.mem (.zpY z))
  | .ldxAbs a => some (.mem (.abs a))
  | .ldxAbsY a => some (.mem (.absY a))
  | .ldyImm v => some (.imm v)
  | .ldyZp z => some (.mem (.zp z))
  | .ldyZpX z => some (.mem (.zpX z))
  | .ldyAbs a => some (.mem (.abs a))
  | .ldyAbsX a => some (.mem (.absX a))
  | .ldm _ _ => none
  | .staZp z => some (.mem (.zp z))
  | .staZpX z => some (.mem (.zpX z))
  | .staAbs a => some (.mem (.abs a))
  | .staAbsX a => some (.mem (.absX a))
  | .staAbsY a => some (.mem (.absY a))
  | .staIndX z => some (.mem (.indX z))
  | .staIndY z => some (.mem (.indY z))
  | .stxZp z => some (.mem (.zp z))
  | .stxZpY z => some (.mem (.zpY z))
  | .stxAbs a => some (.mem (.abs a))
  | .styZp z => some (.mem (.zp z))
  | .styZpX z => some (.mem (.zpX z))
  | .styAbs a => some (.mem (.abs a))
  | .tax => none
  | .tay => none
  | .tsx => none
  | .txa => none
  | .txs => none
  | .tya => none
  | .pha => none
  | .php => none
  | .pla => none
  | .plp => none
  | .adcImm v => some (.imm v)
  | .adcZp z => some (.mem (.zp z))
  | .adcZpX z => some (.mem (.zpX z))
  | .adcAbs a => some (.mem (.abs a))
  | .adcAbsX a => some (.mem (.absX a))
  | .adcAbsY a => some (.mem (.absY a))
  | .adcIndX z => some (.mem (.indX z))
  | .adcIndY z => some (.mem (.indY z))
  | .sbcImm v => some (.imm v)
  | .sbcZp z => some (.mem (.zp z))
  | .sbcZpX z => some (.mem (.zpX z))
  | .sbcAbs a => some (.mem (.abs a))
  | .sbcAbsX a => some (.mem (.absX a))
  | .sbcAbsY a => some (.mem (.absY a))
  | .sbcIndX z => some (.mem (.indX z))
  | .sbcIndY z => some (.mem (.indY z))
  | .andImm v => some (.imm v)
  | .andZp z => some (.mem (.zp z))
  | .andZpX z => some (.mem (.zpX z))
  | .andAbs a => some (.mem (.abs a))
  | .andAbsX a => some (.mem (.absX a))
  | .andAbsY a => some (.mem (.absY a))
  | .andIndX z => some (.mem (.indX z))
  | .andIndY z => some (.mem (.indY z))
  | .oraImm v => some (.imm v)
  | .oraZp z => some (.mem (.zp z))
  | .oraZpX z => some (.mem (.zpX z))
  | .oraAbs a => some (.mem (.abs a))
  | .oraAbsX a => some (.mem (.absX a))
  | .oraAbsY a => some (.mem (.absY a))
  | .oraIndX z => some (.mem (.indX z))
  | .oraIndY z => some (.mem (.indY z))
  | .eorImm v => some (.imm v)
  | .eorZp z => some (.mem (.zp z))
  | .eorZpX z => some (.mem (.zpX z))
  | .eorAbs a => some (.mem (.abs a))
  | .eorAbsX a => some (.mem (.absX a))
  | .eorAbsY a => some (.mem (.absY a))
  | .eorIndX z => some (.mem (.indX z))
  | .eorIndY z => some (.mem (.indY z))
  | .cmpImm v => some (.imm v)
  | .cmpZp z => some (.mem (.zp z))
  | .cmpZpX z => some (.mem (.zpX z))
  | .cmpAbs a => some (.mem (.abs a))
  | .cmpAbsX a => some (.mem (.absX a))
  | .cmpAbsY a => some (.mem (.absY a))
  | .cmpIndX z => some (.mem (.indX z))
  | .cmpIndY z => some (.mem (.indY z))
  | .cpxImm v => some (.imm v)
  | .cpxZp z => some (.mem (.zp z))
  | .cpxAbs a => some (.mem (.abs a))
  | .cpyImm v => some (.imm v)
  | .cpyZp z => some (.mem (.zp z))
  | .cpyAbs a => some (.mem (.abs a))
  | .bitZp z => some (.mem (.zp z))
  | .bitAbs a => some (.mem (.abs a))
  | .tstZp z => some (.mem (.zp z))
  | .comZp z => some (.mem (.zp z))
  | .incA => some .acc
  | .incZp z => some (.mem (.zp z))
  | .incZpX z => some (.mem (.zpX z))
  | .incAbs a => some (.mem (.abs a))
  | .incAbsX a => some (.mem (.absX a))
  | .decA => some .acc
  | .decZp z => some (.mem (.zp z))
  | .decZpX z => some (.mem (.zpX z))
  | .decAbs a => some (.mem (.abs a))
  | .decAbsX a => some (.mem (.absX a))
  | .inx => none
  | .iny => none
  | .dex => none
  | .dey => none
  | .mulZpX z => some (.mem (.zpX z))
  | .divZpX z => some (.mem (.zpX z))
  | .aslA => some .acc
  | .aslZp z => some (.mem (.zp z))
  | .aslZpX z => some (.mem (.zpX z))
  | .aslAbs a => some (.mem (.abs a))
  | .aslAbsX a => some (.mem (.absX a))
  | .lsrA => some .acc
  | .lsrZp z => some (.mem (.zp z))
  | .lsrZpX z => some (.mem (.zpX z))
  | .lsrAbs a => some (.mem (.abs a))
  | .lsrAbsX a => some (.mem (.absX a))
  | .rolA => some .acc
  | .rolZp z => some (.mem (.zp z))
  | .rolZpX z => some (.mem (.zpX z))
  | .rolAbs a => some (.mem (.abs a))
  | .rolAbsX a => some (.mem (.absX a))
  | .rorA => some .acc
  | .rorZp z => some (.mem (.zp z))
  | .rorZpX z => some (.mem (.zpX z))
  | .rorAbs a => some (.mem (.abs a))
  | .rorAbsX a => some (.mem (.absX a))
  | .rrfZp z => some (.mem (.zp z))
  | .clbA _ => none
  | .clbZp _ _ => none
  | .sebA _ => none
  | .sebZp _ _ => none
  | .clc => none
  | .sec => none
  | .cld => none
  | .sed => none
  | .cli => none
  | .sei => none
  | .clt => none
  | .set => none
  | .clv => none
  | .jmpAbs _ => none
  | .jmpInd _ => none
  | .jmpZpInd _ => none
  | .jsrAbs _ => none
  | .jsrZpInd _ => none
  | .jsrSp _ => none
  | .rts => none
  | .rti => none
  | .bcc _ => none
  | .bcs _ => none
  | .beq _ => none
  | .bne _ => none
  | .bmi _ => none
  | .bpl _ => none
  | .bvc _ => none
  | .bvs _ => none
  | .bra _ => none
  | .bbcA _ _ => none
  | .bbcZp _ _ _ => none
  | .bbsA _ _ => none
  | .bbsZp _ _ _ => none
  | .brk => none
  | .nop => none
  | .stp => none
  | .wit => none
  | .fst => none
  | .slw => none

/-- The bit number and the byte of the bit instructions (CLB, SEB, BBC, BBS; R135 to R138). -/
def Instr.bitOperand? : Instr → Option (BitNo × Operand)
  | .ldaImm _ => none
  | .ldaZp _ => none
  | .ldaZpX _ => none
  | .ldaAbs _ => none
  | .ldaAbsX _ => none
  | .ldaAbsY _ => none
  | .ldaIndX _ => none
  | .ldaIndY _ => none
  | .ldxImm _ => none
  | .ldxZp _ => none
  | .ldxZpY _ => none
  | .ldxAbs _ => none
  | .ldxAbsY _ => none
  | .ldyImm _ => none
  | .ldyZp _ => none
  | .ldyZpX _ => none
  | .ldyAbs _ => none
  | .ldyAbsX _ => none
  | .ldm _ _ => none
  | .staZp _ => none
  | .staZpX _ => none
  | .staAbs _ => none
  | .staAbsX _ => none
  | .staAbsY _ => none
  | .staIndX _ => none
  | .staIndY _ => none
  | .stxZp _ => none
  | .stxZpY _ => none
  | .stxAbs _ => none
  | .styZp _ => none
  | .styZpX _ => none
  | .styAbs _ => none
  | .tax => none
  | .tay => none
  | .tsx => none
  | .txa => none
  | .txs => none
  | .tya => none
  | .pha => none
  | .php => none
  | .pla => none
  | .plp => none
  | .adcImm _ => none
  | .adcZp _ => none
  | .adcZpX _ => none
  | .adcAbs _ => none
  | .adcAbsX _ => none
  | .adcAbsY _ => none
  | .adcIndX _ => none
  | .adcIndY _ => none
  | .sbcImm _ => none
  | .sbcZp _ => none
  | .sbcZpX _ => none
  | .sbcAbs _ => none
  | .sbcAbsX _ => none
  | .sbcAbsY _ => none
  | .sbcIndX _ => none
  | .sbcIndY _ => none
  | .andImm _ => none
  | .andZp _ => none
  | .andZpX _ => none
  | .andAbs _ => none
  | .andAbsX _ => none
  | .andAbsY _ => none
  | .andIndX _ => none
  | .andIndY _ => none
  | .oraImm _ => none
  | .oraZp _ => none
  | .oraZpX _ => none
  | .oraAbs _ => none
  | .oraAbsX _ => none
  | .oraAbsY _ => none
  | .oraIndX _ => none
  | .oraIndY _ => none
  | .eorImm _ => none
  | .eorZp _ => none
  | .eorZpX _ => none
  | .eorAbs _ => none
  | .eorAbsX _ => none
  | .eorAbsY _ => none
  | .eorIndX _ => none
  | .eorIndY _ => none
  | .cmpImm _ => none
  | .cmpZp _ => none
  | .cmpZpX _ => none
  | .cmpAbs _ => none
  | .cmpAbsX _ => none
  | .cmpAbsY _ => none
  | .cmpIndX _ => none
  | .cmpIndY _ => none
  | .cpxImm _ => none
  | .cpxZp _ => none
  | .cpxAbs _ => none
  | .cpyImm _ => none
  | .cpyZp _ => none
  | .cpyAbs _ => none
  | .bitZp _ => none
  | .bitAbs _ => none
  | .tstZp _ => none
  | .comZp _ => none
  | .incA => none
  | .incZp _ => none
  | .incZpX _ => none
  | .incAbs _ => none
  | .incAbsX _ => none
  | .decA => none
  | .decZp _ => none
  | .decZpX _ => none
  | .decAbs _ => none
  | .decAbsX _ => none
  | .inx => none
  | .iny => none
  | .dex => none
  | .dey => none
  | .mulZpX _ => none
  | .divZpX _ => none
  | .aslA => none
  | .aslZp _ => none
  | .aslZpX _ => none
  | .aslAbs _ => none
  | .aslAbsX _ => none
  | .lsrA => none
  | .lsrZp _ => none
  | .lsrZpX _ => none
  | .lsrAbs _ => none
  | .lsrAbsX _ => none
  | .rolA => none
  | .rolZp _ => none
  | .rolZpX _ => none
  | .rolAbs _ => none
  | .rolAbsX _ => none
  | .rorA => none
  | .rorZp _ => none
  | .rorZpX _ => none
  | .rorAbs _ => none
  | .rorAbsX _ => none
  | .rrfZp _ => none
  | .clbA b => some (b, .acc)
  | .clbZp b z => some (b, .mem (.zp z))
  | .sebA b => some (b, .acc)
  | .sebZp b z => some (b, .mem (.zp z))
  | .clc => none
  | .sec => none
  | .cld => none
  | .sed => none
  | .cli => none
  | .sei => none
  | .clt => none
  | .set => none
  | .clv => none
  | .jmpAbs _ => none
  | .jmpInd _ => none
  | .jmpZpInd _ => none
  | .jsrAbs _ => none
  | .jsrZpInd _ => none
  | .jsrSp _ => none
  | .rts => none
  | .rti => none
  | .bcc _ => none
  | .bcs _ => none
  | .beq _ => none
  | .bne _ => none
  | .bmi _ => none
  | .bpl _ => none
  | .bvc _ => none
  | .bvs _ => none
  | .bra _ => none
  | .bbcA b _ => some (b, .acc)
  | .bbcZp b z _ => some (b, .mem (.zp z))
  | .bbsA b _ => some (b, .acc)
  | .bbsZp b z _ => some (b, .mem (.zp z))
  | .brk => none
  | .nop => none
  | .stp => none
  | .wit => none
  | .fst => none
  | .slw => none

/-- The branch offset of the relative forms: the operand of REL, the last byte of the bit-relative forms (R95). -/
def Instr.offset? : Instr → Option Byte
  | .ldaImm _ => none
  | .ldaZp _ => none
  | .ldaZpX _ => none
  | .ldaAbs _ => none
  | .ldaAbsX _ => none
  | .ldaAbsY _ => none
  | .ldaIndX _ => none
  | .ldaIndY _ => none
  | .ldxImm _ => none
  | .ldxZp _ => none
  | .ldxZpY _ => none
  | .ldxAbs _ => none
  | .ldxAbsY _ => none
  | .ldyImm _ => none
  | .ldyZp _ => none
  | .ldyZpX _ => none
  | .ldyAbs _ => none
  | .ldyAbsX _ => none
  | .ldm _ _ => none
  | .staZp _ => none
  | .staZpX _ => none
  | .staAbs _ => none
  | .staAbsX _ => none
  | .staAbsY _ => none
  | .staIndX _ => none
  | .staIndY _ => none
  | .stxZp _ => none
  | .stxZpY _ => none
  | .stxAbs _ => none
  | .styZp _ => none
  | .styZpX _ => none
  | .styAbs _ => none
  | .tax => none
  | .tay => none
  | .tsx => none
  | .txa => none
  | .txs => none
  | .tya => none
  | .pha => none
  | .php => none
  | .pla => none
  | .plp => none
  | .adcImm _ => none
  | .adcZp _ => none
  | .adcZpX _ => none
  | .adcAbs _ => none
  | .adcAbsX _ => none
  | .adcAbsY _ => none
  | .adcIndX _ => none
  | .adcIndY _ => none
  | .sbcImm _ => none
  | .sbcZp _ => none
  | .sbcZpX _ => none
  | .sbcAbs _ => none
  | .sbcAbsX _ => none
  | .sbcAbsY _ => none
  | .sbcIndX _ => none
  | .sbcIndY _ => none
  | .andImm _ => none
  | .andZp _ => none
  | .andZpX _ => none
  | .andAbs _ => none
  | .andAbsX _ => none
  | .andAbsY _ => none
  | .andIndX _ => none
  | .andIndY _ => none
  | .oraImm _ => none
  | .oraZp _ => none
  | .oraZpX _ => none
  | .oraAbs _ => none
  | .oraAbsX _ => none
  | .oraAbsY _ => none
  | .oraIndX _ => none
  | .oraIndY _ => none
  | .eorImm _ => none
  | .eorZp _ => none
  | .eorZpX _ => none
  | .eorAbs _ => none
  | .eorAbsX _ => none
  | .eorAbsY _ => none
  | .eorIndX _ => none
  | .eorIndY _ => none
  | .cmpImm _ => none
  | .cmpZp _ => none
  | .cmpZpX _ => none
  | .cmpAbs _ => none
  | .cmpAbsX _ => none
  | .cmpAbsY _ => none
  | .cmpIndX _ => none
  | .cmpIndY _ => none
  | .cpxImm _ => none
  | .cpxZp _ => none
  | .cpxAbs _ => none
  | .cpyImm _ => none
  | .cpyZp _ => none
  | .cpyAbs _ => none
  | .bitZp _ => none
  | .bitAbs _ => none
  | .tstZp _ => none
  | .comZp _ => none
  | .incA => none
  | .incZp _ => none
  | .incZpX _ => none
  | .incAbs _ => none
  | .incAbsX _ => none
  | .decA => none
  | .decZp _ => none
  | .decZpX _ => none
  | .decAbs _ => none
  | .decAbsX _ => none
  | .inx => none
  | .iny => none
  | .dex => none
  | .dey => none
  | .mulZpX _ => none
  | .divZpX _ => none
  | .aslA => none
  | .aslZp _ => none
  | .aslZpX _ => none
  | .aslAbs _ => none
  | .aslAbsX _ => none
  | .lsrA => none
  | .lsrZp _ => none
  | .lsrZpX _ => none
  | .lsrAbs _ => none
  | .lsrAbsX _ => none
  | .rolA => none
  | .rolZp _ => none
  | .rolZpX _ => none
  | .rolAbs _ => none
  | .rolAbsX _ => none
  | .rorA => none
  | .rorZp _ => none
  | .rorZpX _ => none
  | .rorAbs _ => none
  | .rorAbsX _ => none
  | .rrfZp _ => none
  | .clbA _ => none
  | .clbZp _ _ => none
  | .sebA _ => none
  | .sebZp _ _ => none
  | .clc => none
  | .sec => none
  | .cld => none
  | .sed => none
  | .cli => none
  | .sei => none
  | .clt => none
  | .set => none
  | .clv => none
  | .jmpAbs _ => none
  | .jmpInd _ => none
  | .jmpZpInd _ => none
  | .jsrAbs _ => none
  | .jsrZpInd _ => none
  | .jsrSp _ => none
  | .rts => none
  | .rti => none
  | .bcc r => some r
  | .bcs r => some r
  | .beq r => some r
  | .bne r => some r
  | .bmi r => some r
  | .bpl r => some r
  | .bvc r => some r
  | .bvs r => some r
  | .bra r => some r
  | .bbcA _ r => some r
  | .bbcZp _ _ r => some r
  | .bbsA _ r => some r
  | .bbsZp _ _ r => some r
  | .brk => none
  | .nop => none
  | .stp => none
  | .wit => none
  | .fst => none
  | .slw => none

/-- The length in bytes of a mode (R99). -/
def Mode.length : Mode → Nat
  | .imp | .acc | .bitA => 1
  | .imm | .zp | .zpX | .zpY | .bitZp | .bitARel | .sp | .zpInd | .indX | .indY | .rel => 2
  | .abs | .absX | .absY | .ind | .bitZpRel => 3

/-- The length in bytes of an instruction: that of its mode, LDM the only exception (R99). -/
def Instr.length (i : Instr) : Nat :=
  if i.mnemonic = .ldm then 3 else i.mode.length

end Sys2Proof
end

