-- ==== Sys2Proof/WellFormed.lean ====
section
/-! DEFINITION. Which instructions a family member has (rule R100). Every operand field has exactly the width its
encoding gives it, so an instruction is ill-formed in one way only: its opcode is not that instruction on the part. -/

namespace Sys2Proof

/-- The parameter of R6 an instruction requires (field `requires` of the opcode table; R100). -/
def Instr.supported (p : Part) (i : Instr) : Bool :=
  match i.mnemonic with
  | .stp => p.hasStp
  | .wit => p.hasWit
  | .fst | .slw => p.hasFstSlw
  | .mul | .div => p.hasMulDiv
  | .lda | .ldx | .ldy | .ldm | .sta | .stx | .sty | .tax | .tay | .tsx | .txa | .txs
  | .tya | .pha | .php | .pla | .plp | .adc | .sbc | .and | .ora | .eor | .cmp | .cpx
  | .cpy | .bit | .tst | .com | .inc | .dec | .inx | .iny | .dex | .dey | .asl | .lsr
  | .rol | .ror | .rrf | .clb | .seb | .clc | .sec | .cld | .sed | .cli | .sei | .clt
  | .set | .clv | .jmp | .jsr | .rts | .rti | .bcc | .bcs | .beq | .bne | .bmi | .bpl
  | .bvc | .bvs | .bra | .bbc | .bbs | .brk | .nop => true

/-- `i` is an instruction of the family member `p`. -/
abbrev WellFormed (p : Part) (i : Instr) : Prop := i.supported p = true

end Sys2Proof
end

