-- ==== Sys2Proof/Decode.lean ====
section
/-! DEFINITION. Decoding and encoding (rules R90 to R102). The first byte alone decides the instruction and its
length; which instruction 42, 62, C2 and E2 are depends on the family member (R100). -/

namespace Sys2Proof

/-- `{hi, lo}`, R9: the 16-bit value whose high-order byte is `hi`. -/
def addrOf (hi lo : Byte) : Addr := hi ++ lo

/-- The high-order byte of a 16-bit value. -/
def hiByte (a : Addr) : Byte := a.extractLsb' 8 8

/-- The low-order byte of a 16-bit value. -/
def loByte (a : Addr) : Byte := a.extractLsb' 0 8

/-- `sext_16`, R9: the byte with its bit 7 copied into bits 15..8. -/
def sext16 (v : Byte) : Addr := v.signExtend 16

/-- `zext_16`, R9: the byte with a high byte of 00. -/
def zext16 (v : Byte) : Addr := v.setWidth 16

/-- Why an opcode has no instruction. -/
inductive Reject where
  /-- one of the 25 unused opcodes (R101) -/
  | unused (opcode : Byte)
  /-- a device-dependent opcode on a part that has none of its instructions (R100) -/
  | unsupported (opcode : Byte)
  deriving DecidableEq, Repr

/-- The 64 opcodes whose bits 1..0 are 11 (R96): `b` in bits 7..5, clear sense in bit 4, modify in bit 3, memory in
bit 2. -/
def decodeBit (opcode op1 op2 : Byte) : Instr :=
  let b : BitNo := opcode.extractLsb' 5 3
  match opcode.getLsbD 4, opcode.getLsbD 3, opcode.getLsbD 2 with
  | false, false, false => .bbsA b op1
  | true,  false, false => .bbcA b op1
  | false, false, true  => .bbsZp b op1 op2
  | true,  false, true  => .bbcZp b op1 op2
  | false, true,  false => .sebA b
  | true,  true,  false => .clbA b
  | false, true,  true  => .sebZp b op1
  | true,  true,  true  => .clbZp b op1

/-- The other opcodes, the cells of the matrix R98. -/
def decodeWhole (p : Part) (opcode op1 op2 : Byte) : Except Reject Instr :=
  match opcode.toNat with
  | 0x00 => .ok .brk
  | 0x01 => .ok (.oraIndX op1)
  | 0x02 => .ok (.jsrZpInd op1)
  | 0x05 => .ok (.oraZp op1)
  | 0x06 => .ok (.aslZp op1)
  | 0x08 => .ok .php
  | 0x09 => .ok (.oraImm op1)
  | 0x0A => .ok .aslA
  | 0x0D => .ok (.oraAbs (addrOf op2 op1))
  | 0x0E => .ok (.aslAbs (addrOf op2 op1))
  | 0x10 => .ok (.bpl op1)
  | 0x11 => .ok (.oraIndY op1)
  | 0x12 => .ok .clt
  | 0x15 => .ok (.oraZpX op1)
  | 0x16 => .ok (.aslZpX op1)
  | 0x18 => .ok .clc
  | 0x19 => .ok (.oraAbsY (addrOf op2 op1))
  | 0x1A => .ok .decA
  | 0x1D => .ok (.oraAbsX (addrOf op2 op1))
  | 0x1E => .ok (.aslAbsX (addrOf op2 op1))
  | 0x20 => .ok (.jsrAbs (addrOf op2 op1))
  | 0x21 => .ok (.andIndX op1)
  | 0x22 => .ok (.jsrSp op1)
  | 0x24 => .ok (.bitZp op1)
  | 0x25 => .ok (.andZp op1)
  | 0x26 => .ok (.rolZp op1)
  | 0x28 => .ok .plp
  | 0x29 => .ok (.andImm op1)
  | 0x2A => .ok .rolA
  | 0x2C => .ok (.bitAbs (addrOf op2 op1))
  | 0x2D => .ok (.andAbs (addrOf op2 op1))
  | 0x2E => .ok (.rolAbs (addrOf op2 op1))
  | 0x30 => .ok (.bmi op1)
  | 0x31 => .ok (.andIndY op1)
  | 0x32 => .ok .set
  | 0x35 => .ok (.andZpX op1)
  | 0x36 => .ok (.rolZpX op1)
  | 0x38 => .ok .sec
  | 0x39 => .ok (.andAbsY (addrOf op2 op1))
  | 0x3A => .ok .incA
  | 0x3C => .ok (.ldm op1 op2)
  | 0x3D => .ok (.andAbsX (addrOf op2 op1))
  | 0x3E => .ok (.rolAbsX (addrOf op2 op1))
  | 0x40 => .ok .rti
  | 0x41 => .ok (.eorIndX op1)
  | 0x42 => if p.hasStp then .ok .stp else .error (.unsupported opcode)
  | 0x44 => .ok (.comZp op1)
  | 0x45 => .ok (.eorZp op1)
  | 0x46 => .ok (.lsrZp op1)
  | 0x48 => .ok .pha
  | 0x49 => .ok (.eorImm op1)
  | 0x4A => .ok .lsrA
  | 0x4C => .ok (.jmpAbs (addrOf op2 op1))
  | 0x4D => .ok (.eorAbs (addrOf op2 op1))
  | 0x4E => .ok (.lsrAbs (addrOf op2 op1))
  | 0x50 => .ok (.bvc op1)
  | 0x51 => .ok (.eorIndY op1)
  | 0x55 => .ok (.eorZpX op1)
  | 0x56 => .ok (.lsrZpX op1)
  | 0x58 => .ok .cli
  | 0x59 => .ok (.eorAbsY (addrOf op2 op1))
  | 0x5D => .ok (.eorAbsX (addrOf op2 op1))
  | 0x5E => .ok (.lsrAbsX (addrOf op2 op1))
  | 0x60 => .ok .rts
  | 0x61 => .ok (.adcIndX op1)
  | 0x62 => if p.hasMulDiv then .ok (.mulZpX op1) else .error (.unsupported opcode)
  | 0x64 => .ok (.tstZp op1)
  | 0x65 => .ok (.adcZp op1)
  | 0x66 => .ok (.rorZp op1)
  | 0x68 => .ok .pla
  | 0x69 => .ok (.adcImm op1)
  | 0x6A => .ok .rorA
  | 0x6C => .ok (.jmpInd (addrOf op2 op1))
  | 0x6D => .ok (.adcAbs (addrOf op2 op1))
  | 0x6E => .ok (.rorAbs (addrOf op2 op1))
  | 0x70 => .ok (.bvs op1)
  | 0x71 => .ok (.adcIndY op1)
  | 0x75 => .ok (.adcZpX op1)
  | 0x76 => .ok (.rorZpX op1)
  | 0x78 => .ok .sei
  | 0x79 => .ok (.adcAbsY (addrOf op2 op1))
  | 0x7D => .ok (.adcAbsX (addrOf op2 op1))
  | 0x7E => .ok (.rorAbsX (addrOf op2 op1))
  | 0x80 => .ok (.bra op1)
  | 0x81 => .ok (.staIndX op1)
  | 0x82 => .ok (.rrfZp op1)
  | 0x84 => .ok (.styZp op1)
  | 0x85 => .ok (.staZp op1)
  | 0x86 => .ok (.stxZp op1)
  | 0x88 => .ok .dey
  | 0x8A => .ok .txa
  | 0x8C => .ok (.styAbs (addrOf op2 op1))
  | 0x8D => .ok (.staAbs (addrOf op2 op1))
  | 0x8E => .ok (.stxAbs (addrOf op2 op1))
  | 0x90 => .ok (.bcc op1)
  | 0x91 => .ok (.staIndY op1)
  | 0x94 => .ok (.styZpX op1)
  | 0x95 => .ok (.staZpX op1)
  | 0x96 => .ok (.stxZpY op1)
  | 0x98 => .ok .tya
  | 0x99 => .ok (.staAbsY (addrOf op2 op1))
  | 0x9A => .ok .txs
  | 0x9D => .ok (.staAbsX (addrOf op2 op1))
  | 0xA0 => .ok (.ldyImm op1)
  | 0xA1 => .ok (.ldaIndX op1)
  | 0xA2 => .ok (.ldxImm op1)
  | 0xA4 => .ok (.ldyZp op1)
  | 0xA5 => .ok (.ldaZp op1)
  | 0xA6 => .ok (.ldxZp op1)
  | 0xA8 => .ok .tay
  | 0xA9 => .ok (.ldaImm op1)
  | 0xAA => .ok .tax
  | 0xAC => .ok (.ldyAbs (addrOf op2 op1))
  | 0xAD => .ok (.ldaAbs (addrOf op2 op1))
  | 0xAE => .ok (.ldxAbs (addrOf op2 op1))
  | 0xB0 => .ok (.bcs op1)
  | 0xB1 => .ok (.ldaIndY op1)
  | 0xB2 => .ok (.jmpZpInd op1)
  | 0xB4 => .ok (.ldyZpX op1)
  | 0xB5 => .ok (.ldaZpX op1)
  | 0xB6 => .ok (.ldxZpY op1)
  | 0xB8 => .ok .clv
  | 0xB9 => .ok (.ldaAbsY (addrOf op2 op1))
  | 0xBA => .ok .tsx
  | 0xBC => .ok (.ldyAbsX (addrOf op2 op1))
  | 0xBD => .ok (.ldaAbsX (addrOf op2 op1))
  | 0xBE => .ok (.ldxAbsY (addrOf op2 op1))
  | 0xC0 => .ok (.cpyImm op1)
  | 0xC1 => .ok (.cmpIndX op1)
  | 0xC2 => if p.hasWit then .ok .wit else if p.hasFstSlw then .ok .slw else .error (.unsupported opcode)
  | 0xC4 => .ok (.cpyZp op1)
  | 0xC5 => .ok (.cmpZp op1)
  | 0xC6 => .ok (.decZp op1)
  | 0xC8 => .ok .iny
  | 0xC9 => .ok (.cmpImm op1)
  | 0xCA => .ok .dex
  | 0xCC => .ok (.cpyAbs (addrOf op2 op1))
  | 0xCD => .ok (.cmpAbs (addrOf op2 op1))
  | 0xCE => .ok (.decAbs (addrOf op2 op1))
  | 0xD0 => .ok (.bne op1)
  | 0xD1 => .ok (.cmpIndY op1)
  | 0xD5 => .ok (.cmpZpX op1)
  | 0xD6 => .ok (.decZpX op1)
  | 0xD8 => .ok .cld
  | 0xD9 => .ok (.cmpAbsY (addrOf op2 op1))
  | 0xDD => .ok (.cmpAbsX (addrOf op2 op1))
  | 0xDE => .ok (.decAbsX (addrOf op2 op1))
  | 0xE0 => .ok (.cpxImm op1)
  | 0xE1 => .ok (.sbcIndX op1)
  | 0xE2 => if p.hasMulDiv then .ok (.divZpX op1) else if p.hasFstSlw then .ok .fst else .error (.unsupported opcode)
  | 0xE4 => .ok (.cpxZp op1)
  | 0xE5 => .ok (.sbcZp op1)
  | 0xE6 => .ok (.incZp op1)
  | 0xE8 => .ok .inx
  | 0xE9 => .ok (.sbcImm op1)
  | 0xEA => .ok .nop
  | 0xEC => .ok (.cpxAbs (addrOf op2 op1))
  | 0xED => .ok (.sbcAbs (addrOf op2 op1))
  | 0xEE => .ok (.incAbs (addrOf op2 op1))
  | 0xF0 => .ok (.beq op1)
  | 0xF1 => .ok (.sbcIndY op1)
  | 0xF5 => .ok (.sbcZpX op1)
  | 0xF6 => .ok (.incZpX op1)
  | 0xF8 => .ok .sed
  | 0xF9 => .ok (.sbcAbsY (addrOf op2 op1))
  | 0xFD => .ok (.sbcAbsX (addrOf op2 op1))
  | 0xFE => .ok (.incAbsX (addrOf op2 op1))
  | _ => .error (.unused opcode)

/-- The instruction that three bytes at ascending addresses begin with, on the family member `p`: total, and rejecting
by name. A form of one or two bytes does not depend on the bytes after it. -/
def decode (p : Part) (opcode op1 op2 : Byte) : Except Reject Instr :=
  if opcode.extractLsb' 0 2 = 3#2 then .ok (decodeBit opcode op1 op2) else decodeWhole p opcode op1 op2

/-- The opcode of a bit instruction (R96). -/
def bitOpcode (b : BitNo) (low : BitVec 5) : Byte := b ++ low

/-- The bytes of an instruction at ascending addresses (R91 to R97), written from the encodings of the opcode table. -/
def encode : Instr → List Byte
  | .ldaImm v => [0xA9#8, v]
  | .ldaZp z => [0xA5#8, z]
  | .ldaZpX z => [0xB5#8, z]
  | .ldaAbs a => [0xAD#8, loByte a, hiByte a]
  | .ldaAbsX a => [0xBD#8, loByte a, hiByte a]
  | .ldaAbsY a => [0xB9#8, loByte a, hiByte a]
  | .ldaIndX z => [0xA1#8, z]
  | .ldaIndY z => [0xB1#8, z]
  | .ldxImm v => [0xA2#8, v]
  | .ldxZp z => [0xA6#8, z]
  | .ldxZpY z => [0xB6#8, z]
  | .ldxAbs a => [0xAE#8, loByte a, hiByte a]
  | .ldxAbsY a => [0xBE#8, loByte a, hiByte a]
  | .ldyImm v => [0xA0#8, v]
  | .ldyZp z => [0xA4#8, z]
  | .ldyZpX z => [0xB4#8, z]
  | .ldyAbs a => [0xAC#8, loByte a, hiByte a]
  | .ldyAbsX a => [0xBC#8, loByte a, hiByte a]
  | .ldm v z => [0x3C#8, v, z]
  | .staZp z => [0x85#8, z]
  | .staZpX z => [0x95#8, z]
  | .staAbs a => [0x8D#8, loByte a, hiByte a]
  | .staAbsX a => [0x9D#8, loByte a, hiByte a]
  | .staAbsY a => [0x99#8, loByte a, hiByte a]
  | .staIndX z => [0x81#8, z]
  | .staIndY z => [0x91#8, z]
  | .stxZp z => [0x86#8, z]
  | .stxZpY z => [0x96#8, z]
  | .stxAbs a => [0x8E#8, loByte a, hiByte a]
  | .styZp z => [0x84#8, z]
  | .styZpX z => [0x94#8, z]
  | .styAbs a => [0x8C#8, loByte a, hiByte a]
  | .tax => [0xAA#8]
  | .tay => [0xA8#8]
  | .tsx => [0xBA#8]
  | .txa => [0x8A#8]
  | .txs => [0x9A#8]
  | .tya => [0x98#8]
  | .pha => [0x48#8]
  | .php => [0x08#8]
  | .pla => [0x68#8]
  | .plp => [0x28#8]
  | .adcImm v => [0x69#8, v]
  | .adcZp z => [0x65#8, z]
  | .adcZpX z => [0x75#8, z]
  | .adcAbs a => [0x6D#8, loByte a, hiByte a]
  | .adcAbsX a => [0x7D#8, loByte a, hiByte a]
  | .adcAbsY a => [0x79#8, loByte a, hiByte a]
  | .adcIndX z => [0x61#8, z]
  | .adcIndY z => [0x71#8, z]
  | .sbcImm v => [0xE9#8, v]
  | .sbcZp z => [0xE5#8, z]
  | .sbcZpX z => [0xF5#8, z]
  | .sbcAbs a => [0xED#8, loByte a, hiByte a]
  | .sbcAbsX a => [0xFD#8, loByte a, hiByte a]
  | .sbcAbsY a => [0xF9#8, loByte a, hiByte a]
  | .sbcIndX z => [0xE1#8, z]
  | .sbcIndY z => [0xF1#8, z]
  | .andImm v => [0x29#8, v]
  | .andZp z => [0x25#8, z]
  | .andZpX z => [0x35#8, z]
  | .andAbs a => [0x2D#8, loByte a, hiByte a]
  | .andAbsX a => [0x3D#8, loByte a, hiByte a]
  | .andAbsY a => [0x39#8, loByte a, hiByte a]
  | .andIndX z => [0x21#8, z]
  | .andIndY z => [0x31#8, z]
  | .oraImm v => [0x09#8, v]
  | .oraZp z => [0x05#8, z]
  | .oraZpX z => [0x15#8, z]
  | .oraAbs a => [0x0D#8, loByte a, hiByte a]
  | .oraAbsX a => [0x1D#8, loByte a, hiByte a]
  | .oraAbsY a => [0x19#8, loByte a, hiByte a]
  | .oraIndX z => [0x01#8, z]
  | .oraIndY z => [0x11#8, z]
  | .eorImm v => [0x49#8, v]
  | .eorZp z => [0x45#8, z]
  | .eorZpX z => [0x55#8, z]
  | .eorAbs a => [0x4D#8, loByte a, hiByte a]
  | .eorAbsX a => [0x5D#8, loByte a, hiByte a]
  | .eorAbsY a => [0x59#8, loByte a, hiByte a]
  | .eorIndX z => [0x41#8, z]
  | .eorIndY z => [0x51#8, z]
  | .cmpImm v => [0xC9#8, v]
  | .cmpZp z => [0xC5#8, z]
  | .cmpZpX z => [0xD5#8, z]
  | .cmpAbs a => [0xCD#8, loByte a, hiByte a]
  | .cmpAbsX a => [0xDD#8, loByte a, hiByte a]
  | .cmpAbsY a => [0xD9#8, loByte a, hiByte a]
  | .cmpIndX z => [0xC1#8, z]
  | .cmpIndY z => [0xD1#8, z]
  | .cpxImm v => [0xE0#8, v]
  | .cpxZp z => [0xE4#8, z]
  | .cpxAbs a => [0xEC#8, loByte a, hiByte a]
  | .cpyImm v => [0xC0#8, v]
  | .cpyZp z => [0xC4#8, z]
  | .cpyAbs a => [0xCC#8, loByte a, hiByte a]
  | .bitZp z => [0x24#8, z]
  | .bitAbs a => [0x2C#8, loByte a, hiByte a]
  | .tstZp z => [0x64#8, z]
  | .comZp z => [0x44#8, z]
  | .incA => [0x3A#8]
  | .incZp z => [0xE6#8, z]
  | .incZpX z => [0xF6#8, z]
  | .incAbs a => [0xEE#8, loByte a, hiByte a]
  | .incAbsX a => [0xFE#8, loByte a, hiByte a]
  | .decA => [0x1A#8]
  | .decZp z => [0xC6#8, z]
  | .decZpX z => [0xD6#8, z]
  | .decAbs a => [0xCE#8, loByte a, hiByte a]
  | .decAbsX a => [0xDE#8, loByte a, hiByte a]
  | .inx => [0xE8#8]
  | .iny => [0xC8#8]
  | .dex => [0xCA#8]
  | .dey => [0x88#8]
  | .mulZpX z => [0x62#8, z]
  | .divZpX z => [0xE2#8, z]
  | .aslA => [0x0A#8]
  | .aslZp z => [0x06#8, z]
  | .aslZpX z => [0x16#8, z]
  | .aslAbs a => [0x0E#8, loByte a, hiByte a]
  | .aslAbsX a => [0x1E#8, loByte a, hiByte a]
  | .lsrA => [0x4A#8]
  | .lsrZp z => [0x46#8, z]
  | .lsrZpX z => [0x56#8, z]
  | .lsrAbs a => [0x4E#8, loByte a, hiByte a]
  | .lsrAbsX a => [0x5E#8, loByte a, hiByte a]
  | .rolA => [0x2A#8]
  | .rolZp z => [0x26#8, z]
  | .rolZpX z => [0x36#8, z]
  | .rolAbs a => [0x2E#8, loByte a, hiByte a]
  | .rolAbsX a => [0x3E#8, loByte a, hiByte a]
  | .rorA => [0x6A#8]
  | .rorZp z => [0x66#8, z]
  | .rorZpX z => [0x76#8, z]
  | .rorAbs a => [0x6E#8, loByte a, hiByte a]
  | .rorAbsX a => [0x7E#8, loByte a, hiByte a]
  | .rrfZp z => [0x82#8, z]
  | .clbA b => [bitOpcode b 0x1B#5]
  | .clbZp b z => [bitOpcode b 0x1F#5, z]
  | .sebA b => [bitOpcode b 0x0B#5]
  | .sebZp b z => [bitOpcode b 0x0F#5, z]
  | .clc => [0x18#8]
  | .sec => [0x38#8]
  | .cld => [0xD8#8]
  | .sed => [0xF8#8]
  | .cli => [0x58#8]
  | .sei => [0x78#8]
  | .clt => [0x12#8]
  | .set => [0x32#8]
  | .clv => [0xB8#8]
  | .jmpAbs a => [0x4C#8, loByte a, hiByte a]
  | .jmpInd a => [0x6C#8, loByte a, hiByte a]
  | .jmpZpInd z => [0xB2#8, z]
  | .jsrAbs a => [0x20#8, loByte a, hiByte a]
  | .jsrZpInd z => [0x02#8, z]
  | .jsrSp l => [0x22#8, l]
  | .rts => [0x60#8]
  | .rti => [0x40#8]
  | .bcc r => [0x90#8, r]
  | .bcs r => [0xB0#8, r]
  | .beq r => [0xF0#8, r]
  | .bne r => [0xD0#8, r]
  | .bmi r => [0x30#8, r]
  | .bpl r => [0x10#8, r]
  | .bvc r => [0x50#8, r]
  | .bvs r => [0x70#8, r]
  | .bra r => [0x80#8, r]
  | .bbcA b r => [bitOpcode b 0x13#5, r]
  | .bbcZp b z r => [bitOpcode b 0x17#5, z, r]
  | .bbsA b r => [bitOpcode b 0x03#5, r]
  | .bbsZp b z r => [bitOpcode b 0x07#5, z, r]
  | .brk => [0x00#8]
  | .nop => [0xEA#8]
  | .stp => [0x42#8]
  | .wit => [0xC2#8]
  | .fst => [0xE2#8]
  | .slw => [0xC2#8]

/-- Byte `n` of a number whose bits are counted from the first byte's least significant bit. -/
def byteOfWord (w n : Nat) : Byte := BitVec.ofNat 8 (w / 256 ^ n)

/-- The instruction `p` reads from the word `w`, whose bits above the given ones are 0. -/
def decodeWordOn (p : Part) (w : Nat) : Option Instr :=
  match decode p (byteOfWord w 0) (byteOfWord w 1) (byteOfWord w 2) with
  | .ok i => some i
  | .error _ => none

/-- `w` is, on `p`, an instruction of exactly `nbits` bits. -/
def fitsOn (p : Part) (nbits w : Nat) : Bool :=
  match decodeWordOn p w with
  | some i => 8 * i.length == nbits
  | none => false

/-- The family member an opcode-table word is read on: M50740A where `w` is an instruction of exactly `nbits` bits
there and not on Series 38000 (the row FST, one byte where DIV has two), else Series 38000, which has every other
instruction but SLW (log entry 4). -/
def partForWord (nbits w : Nat) : Part :=
  if fitsOn .m50740 nbits w && !fitsOn .series38000 nbits w then .m50740 else .series38000

/-- The instruction the decoder reads from the opcode table's word `w` of `nbits` bits, on the family member of
`partForWord`. Of the two rows of C2, which no bit tells apart (R100), it is WIT. -/
def decodeTableWord (nbits w : Nat) : Option Instr :=
  decodeWordOn (partForWord nbits w) w

end Sys2Proof
end

