-- ==== Sys2Proof/Machine/State.lean ====
section
/-! DEFINITION. The machine's state as plain data: the six registers (R20), memory (R60), the run state (R43), the
hazard windows (R42), the X_OUTF connection (R302), and three fields of the model's own: the step number that free
values are drawn at, the environment's script, and the family member's parameters. -/

namespace Sys2Proof.Machine

/-- The flags of PS that hold a value (R27). B (bit 4) has no storage: it always reads 0 (R34). -/
structure PS where
  n : Bool
  v : Bool
  t : Bool
  d : Bool
  i : Bool
  z : Bool
  c : Bool
  deriving DecidableEq, Repr

/-- Whether the CPU runs, R43. -/
inductive RunState where
  | running
  /-- the oscillator is stopped by STP -/
  | stoppedStp
  /-- the internal clock is stopped by WIT -/
  | stoppedWit
  deriving DecidableEq, Repr

/-- What the previous instruction left open for the next boundary and the next instruction (R42, R322). Sources are
named by their place in `Config.sources`. -/
structure Window where
  /-- the previous instruction was PLP (R353) -/
  afterPlp : Bool
  /-- the previous instruction was ADC or SBC with D = 1 (R356) -/
  afterDecimal : Bool
  /-- the sources whose request bit the previous instruction changed (R354) -/
  fresh : List Nat
  /-- the sources whose request bit one instruction cleared while it set the enable bit, not yet past an acceptance
  decision (R355) -/
  forced : List Nat
  deriving DecidableEq, Repr

/-- No window is open. -/
def Window.closed : Window := ⟨false, false, [], []⟩

/-- What the environment does at one boundary (R5): devices set request bits (R311), an event that is no interrupt
request may end a stop (R304), the recognition of an acceptable interrupt may be postponed (R313), reset may be
asserted (R350). -/
structure EnvInput where
  requests : List Nat
  wake     : Bool
  postpone : Bool
  reset    : Bool
  deriving DecidableEq, Repr

/-- Nothing happens at the boundary. -/
def EnvInput.quiet : EnvInput := ⟨[], false, false, false⟩

/-- Memory: the bytes that differ from `blankByte`, by strictly rising address. -/
abbrev Memory := List Host.Cell

/-- What an address that nothing has written reads as. DESIGN CHOICE (log entry 5): the spec leaves RAM undefined. -/
def blankByte : Byte := 0x00#8

/-- The canonical form: addresses strictly rising, all below 2^16, no entry equal to what an unlisted address reads
as. -/
def Memory.wf : Memory → Bool
  | [] => true
  | c :: m => decide (c.1 < 65536) && (c.2 != blankByte) && m.all (fun e => decide (c.1 < e.1)) && Memory.wf m

/-- The state of the machine. -/
structure State where
  /-- accumulator A (R21) -/
  a : Byte
  /-- index register X (R22) -/
  x : Byte
  /-- index register Y (R22) -/
  y : Byte
  /-- stack pointer S (R23) -/
  sp : Byte
  /-- program counter PC (R28): between instructions, the address of the next opcode -/
  pc : Addr
  /-- processor status register PS (R27) -/
  ps : PS
  /-- the 16-bit address space (R60), the Stack Page Selection Bit (R40) and the request and enable bits (R41) in it -/
  mem : Memory
  /-- run state (R43) -/
  run : RunState
  /-- `XoutfConnected` (R302) -/
  xoutf : Bool
  /-- hazard windows (R42) -/
  window : Window
  /-- the MODEL's own: the number of steps taken, which the free values are drawn at (log entry 3) -/
  tick : Nat
  /-- the MODEL's own: what the environment will do, one entry per step, nothing after the last (log entry 2) -/
  script : List EnvInput
  /-- the family member's parameters (R6); no step changes them (log entry 1) -/
  cfg : Config
  deriving DecidableEq, Repr

/-- `s` with another `a`. -/
def State.setA (s : State) (v : Byte) : State := { s with a := v }

/-- `s` with another `x`. -/
def State.setX (s : State) (v : Byte) : State := { s with x := v }

/-- `s` with another `y`. -/
def State.setY (s : State) (v : Byte) : State := { s with y := v }

/-- `s` with another `sp`. -/
def State.setSp (s : State) (v : Byte) : State := { s with sp := v }

/-- `s` with another `pc`. -/
def State.setPc (s : State) (v : Addr) : State := { s with pc := v }

/-- `s` with another `ps`. -/
def State.setPs (s : State) (v : PS) : State := { s with ps := v }

/-- `s` with another `mem`. -/
def State.setMem (s : State) (v : Memory) : State := { s with mem := v }

/-- `s` with another `run`. -/
def State.setRun (s : State) (v : RunState) : State := { s with run := v }

/-- `s` with another `xoutf`. -/
def State.setXoutf (s : State) (v : Bool) : State := { s with xoutf := v }

/-- `s` with another `window`. -/
def State.setWindow (s : State) (v : Window) : State := { s with window := v }

/-- `s` with another `tick`. -/
def State.setTick (s : State) (v : Nat) : State := { s with tick := v }

/-- `s` with another `script`. -/
def State.setScript (s : State) (v : List EnvInput) : State := { s with script := v }

/-- `s` with another `cfg`. -/
def State.setCfg (s : State) (v : Config) : State := { s with cfg := v }

/-- Why the machine stops with a fault. -/
inductive Fault where
  /-- the step function: the opcode at PC is one of the 25 that have no instruction (R101, D17). Safe: the chip's
  behaviour is unknown, and the model admits no continuation. -/
  | unusedOpcode (opcode : Byte)
  /-- the step function: the opcode at PC belongs to instructions that the family member lacks (R100, R101, D17).
  Safe, as above. -/
  | unsupportedOpcode (opcode : Byte)
  deriving DecidableEq, Repr

/-- Why the model gives no next state. -/
inductive Refusal where
  /-- exec: the instruction has no meaning in the model. No arm of this model answers so. Safe. -/
  | notModelled (mnemonic : String)
  /-- JMP IND: the pointer's first byte is the last of a page and parameter P21 gives no behaviour (R133, R357, D4).
  Safe: programs that real hardware runs in some definite way are rejected. -/
  | jmpIndirectAtPageEnd (pointer : Addr)
  deriving DecidableEq, Repr

/-- The machine right after reset (R44, R350, R351): I = 1, running, PC from the reset vector (two bytes that nothing
has written). The spec gives no other register a value: DESIGN CHOICE, zero (log entries 6 to 10). -/
def State.reset : State where
  a := 0x00#8
  x := 0x00#8
  y := 0x00#8
  sp := 0x00#8
  pc := 0x0000#16
  ps := { n := false, v := false, t := false, d := false, i := true, z := false, c := false }
  mem := []
  run := .running
  xoutf := false
  window := .closed
  tick := 0
  script := []
  cfg := .atReset

end Sys2Proof.Machine
end

