-- ==== Sys2Proof/Machine/Flags.lean ====
section
/-! DEFINITION. The flags of PS: the register as a byte (R27, R34), and every result that comes with flags (R180 to
R194, R220 to R226). `tick` is the number of the step, where a free value is drawn. -/

namespace Sys2Proof.Machine

/-- PS as the byte `N V T B D I Z C` (R27), with the bit 4 that the pushing instruction gives it (R34, R316). -/
def PS.toByte (p : PS) (b : Bool) : Byte :=
  BitVec.ofBool p.n ++ BitVec.ofBool p.v ++ BitVec.ofBool p.t ++ BitVec.ofBool b ++ BitVec.ofBool p.d ++
    BitVec.ofBool p.i ++ BitVec.ofBool p.z ++ BitVec.ofBool p.c

/-- PS loaded from a byte; bit 4 is discarded (R34, R166). -/
def PS.ofByte (v : Byte) : PS where
  n := v.getLsbD 7
  v := v.getLsbD 6
  t := v.getLsbD 5
  d := v.getLsbD 3
  i := v.getLsbD 2
  z := v.getLsbD 1
  c := v.getLsbD 0

/-- `SetNZ(v)`, R9. -/
def PS.setNZ (p : PS) (v : Byte) : PS := { p with n := v.getLsbD 7, z := v == 0x00#8 }

/-- The flags of `written` from `new`, the others from `old`. -/
def PS.merge (written new old : PS) : PS where
  n := if written.n then new.n else old.n
  v := if written.v then new.v else old.v
  t := if written.t then new.t else old.t
  d := if written.d then new.d else old.d
  i := if written.i then new.i else old.i
  z := if written.z then new.z else old.z
  c := if written.c then new.c else old.c

/-- The empty set of flags. -/
def PS.noFlags : PS := ⟨false, false, false, false, false, false, false⟩

end Sys2Proof.Machine

namespace Sys2Proof

open Machine

/-- The flags an instruction writes, the table R39, as the set of flags that are true. -/
def Mnemonic.flagsWritten : Mnemonic → PS
  | .adc | .sbc => { PS.noFlags with n := true, v := true, z := true, c := true }
  | .and | .ora | .eor | .lda | .ldx | .ldy | .pla | .tst | .com => { PS.noFlags with n := true, z := true }
  | .tax | .tay | .tsx | .txa | .tya => { PS.noFlags with n := true, z := true }
  | .inc | .dec | .inx | .iny | .dex | .dey => { PS.noFlags with n := true, z := true }
  | .asl | .lsr | .rol | .ror | .cmp | .cpx | .cpy => { PS.noFlags with n := true, z := true, c := true }
  | .bit => { PS.noFlags with n := true, v := true, z := true }
  | .brk => { PS.noFlags with i := true }
  | .clc | .sec => { PS.noFlags with c := true }
  | .cld | .sed => { PS.noFlags with d := true }
  | .cli | .sei => { PS.noFlags with i := true }
  | .clt | .set => { PS.noFlags with t := true }
  | .clv => { PS.noFlags with v := true }
  | .plp | .rti => ⟨true, true, true, true, true, true, true⟩
  | .ldm | .sta | .stx | .sty | .txs | .pha | .php | .mul | .div | .rrf | .clb | .seb => PS.noFlags
  | .jmp | .jsr | .rts | .bcc | .bcs | .beq | .bne | .bmi | .bpl | .bvc | .bvs | .bra | .bbc | .bbs | .nop => PS.noFlags
  | .stp | .wit | .fst | .slw => PS.noFlags

end Sys2Proof

namespace Sys2Proof.Machine

/-- ADC with D = 0 (R180): the 9-bit sum, its carry, the signed overflow. -/
def addBinary (acc m : Byte) (p : PS) : Byte × PS :=
  let sum : BitVec 9 := acc.setWidth 9 + m.setWidth 9 + (BitVec.ofBool p.c).setWidth 9
  let r : Byte := sum.extractLsb' 0 8
  (r, { p.setNZ r with
    c := sum.getLsbD 8
    v := (acc.getLsbD 7 == m.getLsbD 7) && (r.getLsbD 7 != acc.getLsbD 7) })

/-- SBC with D = 0 (R181): the difference less the complement of C; C = 1 when no borrow occurred. -/
def subBinary (acc m : Byte) (p : PS) : Byte × PS :=
  let d : Int := (acc.toNat : Int) - m.toNat - (1 - p.c.toNat)
  let r : Byte := BitVec.ofInt 8 d
  (r, { p.setNZ r with
    c := decide (0 ≤ d)
    v := (acc.getLsbD 7 != m.getLsbD 7) && (r.getLsbD 7 != acc.getLsbD 7) })

/-- Both nibbles of the byte are decimal digits (R182). -/
def validBcd (v : Byte) : Bool := v.toNat / 16 ≤ 9 && v.toNat % 16 ≤ 9

/-- The number a valid packed-BCD byte stands for (R182). -/
def dec (v : Byte) : Nat := 10 * (v.toNat / 16) + v.toNat % 16

/-- Two decimal digits as a byte, the tens in bits 7..4 (R182). -/
def bcd (n : Nat) : Byte := BitVec.ofNat 8 (16 * (n / 10 % 10) + n % 10)

/-- After a decimal operation N, V and Z hold no specified value (R33, R182): free values. -/
def PS.afterDecimal (p : PS) (tick : Nat) (c : Bool) : PS :=
  { p with
    n := Config.freeBit tick .decimalN
    v := Config.freeBit tick .decimalV
    z := Config.freeBit tick .decimalZ
    c := c }

/-- ADC with D = 1 (R182); the result and C of an operand that is not packed BCD are free values. -/
def addDecimal (tick : Nat) (acc m : Byte) (p : PS) : Byte × PS :=
  if validBcd acc && validBcd m then
    let t := dec acc + dec m + p.c.toNat
    (bcd (t % 100), p.afterDecimal tick (decide (100 ≤ t)))
  else
    (Config.freeByte tick .decimalResult, p.afterDecimal tick (Config.freeBit tick .decimalC))

/-- SBC with D = 1 (R183). -/
def subDecimal (tick : Nat) (acc m : Byte) (p : PS) : Byte × PS :=
  if validBcd acc && validBcd m then
    let t : Int := (dec acc : Int) - dec m - (1 - p.c.toNat)
    (bcd (t % 100).toNat, p.afterDecimal tick (decide (0 ≤ t)))
  else
    (Config.freeByte tick .decimalResult, p.afterDecimal tick (Config.freeBit tick .decimalC))

/-- CMP, CPX, CPY (R187 to R189): N and Z of the difference, C = 1 when no borrow occurred; V untouched. -/
def compareFlags (r m : Byte) (p : PS) : PS :=
  { p.setNZ (r - m) with c := decide (m.toNat ≤ r.toNat) }

/-- BIT (R190): N and V are bits 7 and 6 of memory, Z is that of the AND. -/
def bitFlags (acc m : Byte) (p : PS) : PS :=
  { p with n := m.getLsbD 7, v := m.getLsbD 6, z := (acc &&& m) == 0x00#8 }

/-- ASL (R220). -/
def shiftLeft (v : Byte) (p : PS) : Byte × PS :=
  let r : Byte := v.extractLsb' 0 7 ++ 0#1
  (r, { p.setNZ r with c := v.getLsbD 7 })

/-- LSR (R221). -/
def shiftRight (v : Byte) (p : PS) : Byte × PS :=
  let r : Byte := 0#1 ++ v.extractLsb' 1 7
  (r, { p.setNZ r with c := v.getLsbD 0 })

/-- ROL (R222): a 9-bit rotate through C. -/
def rotateLeft (v : Byte) (p : PS) : Byte × PS :=
  let r : Byte := v.extractLsb' 0 7 ++ BitVec.ofBool p.c
  (r, { p.setNZ r with c := v.getLsbD 7 })

/-- ROR (R223): a 9-bit rotate through C. -/
def rotateRight (v : Byte) (p : PS) : Byte × PS :=
  let r : Byte := BitVec.ofBool p.c ++ v.extractLsb' 1 7
  (r, { p.setNZ r with c := v.getLsbD 0 })

/-- RRF (R224): the two nibbles exchanged, no flag. -/
def rotateNibbles (v : Byte) (p : PS) : Byte × PS := (v.extractLsb' 0 4 ++ v.extractLsb' 4 4, p)

/-- COM (R192). -/
def complement (v : Byte) (p : PS) : Byte × PS := (~~~v, p.setNZ (~~~v))

/-- INC, INX, INY (R193, R195, R196). -/
def increment (v : Byte) (p : PS) : Byte × PS := (v + 1#8, p.setNZ (v + 1#8))

/-- DEC, DEX, DEY (R194, R197, R198). -/
def decrement (v : Byte) (p : PS) : Byte × PS := (v - 1#8, p.setNZ (v - 1#8))

/-- The byte with only bit `b` set. -/
def bitMask (b : BitNo) : Byte := 1#8 <<< b.toNat

/-- CLB (R225): no flag. -/
def clearBit (b : BitNo) (v : Byte) (p : PS) : Byte × PS := (v &&& ~~~bitMask b, p)

/-- SEB (R226): no flag. -/
def setBit (b : BitNo) (v : Byte) (p : PS) : Byte × PS := (v ||| bitMask b, p)

end Sys2Proof.Machine
end

