-- ==== Sys2Proof/Machine/Ops.lean ====
section
/-! DEFINITION. The named operations over memory and registers: a byte read and written (R68, R69), the stack (R24 to
R26), the control bits in memory (R40, R41), taking an exception and returning from one (R275, R314, R263), the
acceptance of an interrupt (R311 to R317) and reset (R350). -/

namespace Sys2Proof.Machine

/-! ### Memory as a list -/

/-- The byte at an address: what was last written there, or `blankByte`. -/
def Memory.byte : Memory → Nat → Byte
  | [], _ => blankByte
  | c :: m, a => if c.1 = a then c.2 else Memory.byte m a

/-- No entry at `a`. -/
def Memory.erase : Memory → Nat → Memory
  | [], _ => []
  | c :: m, a => if c.1 = a then Memory.erase m a else c :: Memory.erase m a

/-- One more entry, before the first of a higher address. -/
def Memory.insert : Memory → Nat → Byte → Memory
  | [], a, v => [(a, v)]
  | c :: m, a, v => if a < c.1 then (a, v) :: c :: m else c :: Memory.insert m a v

/-- The byte `v` at `a`, in the canonical form: writing what an unlisted address reads as removes the entry. -/
def Memory.set (m : Memory) (a : Nat) (v : Byte) : Memory :=
  if v = blankByte then Memory.erase m a else Memory.insert (Memory.erase m a) a v

/-! ### The memory map and the control bits -/

/-- `ADDR_TOP`, P18 and R66: the last address of the special page. -/
def addrTop (c : Config) : Addr := addrOf c.specialPageHi 0xFF#8

/-- The kind of the first region that holds the address; the hole where none does. -/
def regionKind (hole : Hole) : List Region → Addr → RegionKind
  | [], _ => .unmapped hole
  | r :: rs, a => if r.first ≤ a ∧ a ≤ r.last then r.kind else regionKind hole rs a

/-- What the memory map says of an address (P17); above `ADDR_TOP` nothing stands (R29, R66). -/
def mapAt (c : Config) (a : Addr) : RegionKind :=
  if addrTop c < a then .unmapped c.hole else regionKind c.hole c.memoryMap a

/-- The address that an access to `a` reaches: another one where `a` mirrors it (R66, P17). -/
def locate (c : Config) (a : Addr) : Addr :=
  match mapAt c a with
  | .unmapped (.mirror base mask) => base + (a &&& mask)
  | _ => a

/-- What stands where an access to `a` arrives. -/
def kindAt (c : Config) (a : Addr) : RegionKind := mapAt c (locate c a)

/-- What a read gives, by what stands there. A mirror of a mirror, which no platform has, is open bus. -/
def readRuleOf : RegionKind → ReadRule
  | .ram => .held
  | .rom _ => .held
  | .io onRead _ => onRead
  | .unmapped (.bus onRead _) => onRead
  | .unmapped (.mirror _ _) => .environment

/-- What a write does, by what stands there. -/
def writeRuleOf : RegionKind → WriteRule
  | .ram => .store
  | .rom onWrite => onWrite
  | .io _ onWrite => onWrite
  | .unmapped (.bus _ onWrite) => onWrite
  | .unmapped (.mirror _ _) => .ignore

/-- The byte held after `v` is written over `old`; `drawn` gives the bits left to the environment. -/
def writeResult (rule : WriteRule) (old v drawn : Byte) : Byte :=
  match rule with
  | .store => v
  | .ignore => old
  | .bits m =>
    let settled := (v &&& m.written) ||| (old &&& v &&& m.clearedBy0) ||| (old &&& ~~~v &&& m.clearedBy1) |||
      ((old ||| v) &&& m.setBy1) |||
      (old &&& ~~~(m.written ||| m.clearedBy0 ||| m.clearedBy1 ||| m.setBy1 ||| m.free))
    if m.free = 0x00#8 then settled else settled ||| (drawn &&& m.free)

/-- `ZP(z)`, R9. -/
def zpAddr (z : Byte) : Addr := addrOf 0x00#8 z

/-- Where the Stack Page Selection Bit stands (P3, R40). -/
def spsLoc (c : Config) : BitLoc := ⟨zpAddr c.spsAddr, c.spsBit⟩

/-- The control bits that the CPU rules name: the Stack Page Selection Bit, the request and the enable bits. -/
def controlBits (c : Config) : List BitLoc :=
  (if c.hasSps then [spsLoc c] else []) ++ c.sources.flatMap (fun k => [k.request, k.enable])

/-- The bits of the byte at `a` that are in `ls`. -/
def maskAt (ls : List BitLoc) (a : Addr) : Byte :=
  ls.foldr (fun l m => if l.addr = a then m ||| bitMask l.bit else m) 0x00#8

/-- The byte stored at an address, whatever stands there. -/
def State.byteAt (s : State) (a : Addr) : Byte := s.mem.byte a.toNat

/-- The value of a control bit. -/
def State.latch (s : State) (l : BitLoc) : Bool := (s.byteAt l.addr).getLsbD l.bit.toNat

/-- A control bit set to a value. -/
def State.setLatch (s : State) (l : BitLoc) (v : Bool) : State :=
  s.setMem (s.mem.set l.addr.toNat
    (if v then s.byteAt l.addr ||| bitMask l.bit else s.byteAt l.addr &&& ~~~bitMask l.bit))

/-- The request bits at `a` that the previous instruction changed: their value is not settled yet (R354). -/
def State.freshMask (s : State) (a : Addr) : Byte :=
  maskAt (s.window.fresh.filterMap (fun k => s.cfg.sources[k]?.map (·.request))) a

/-! ### The access primitives -/

/-- The byte that the address gives, before the latency of R354: RAM and ROM the byte held; elsewhere the control bits
held there, and in its other bits what the map says (P17). -/
def State.sourceByte (s : State) (acc : Access) (a : Addr) : Byte :=
  let held := s.byteAt (locate s.cfg a)
  let mask := maskAt (controlBits s.cfg) (locate s.cfg a)
  match readRuleOf (kindAt s.cfg a) with
  | .held => held
  | .environment => (held &&& mask) ||| (Config.freeByte s.tick (.read acc) &&& ~~~mask)
  | .fixed v => (held &&& mask) ||| (v &&& ~~~mask)

/-- `MemRead`, R68: request bits that the previous instruction changed read as the old or the new value (R354). -/
def State.read (s : State) (acc : Access) (a : Addr) : Byte :=
  let v := s.sourceByte acc a
  let mask := s.freshMask (locate s.cfg a)
  if mask = 0x00#8 then v
  else (v &&& ~~~mask) ||| (Config.freeByte s.tick (.request acc) &&& mask)

/-- The byte held after `v` is written at `a` over `old` (R69, P17). -/
def State.writtenByte (s : State) (a : Addr) (old v : Byte) : Byte :=
  writeResult (writeRuleOf (kindAt s.cfg a)) old v (Config.freeByte s.tick (.write a))

/-- A write to the address can change a byte. -/
def State.writable (s : State) (a : Addr) : Bool := writeRuleOf (kindAt s.cfg a) != .ignore

/-- `MemWrite`, R69. -/
def State.write (s : State) (a : Addr) (v : Byte) : State :=
  if s.writable a then
    s.setMem (s.mem.set (locate s.cfg a).toNat (s.writtenByte a (s.byteAt (locate s.cfg a)) v))
  else s

/-! ### The program counter and the stack -/

/-- PC moved past the `n` bytes of the instruction, modulo 2^16 (R29). -/
def State.advance (s : State) (n : Nat) : State := s.setPc (s.pc + BitVec.ofNat 16 n)

/-- `StackPageHi()`, R24. -/
def State.stackPageHi (s : State) : Byte :=
  if s.cfg.hasSps then (if s.latch (spsLoc s.cfg) then 0x01#8 else 0x00#8) else s.cfg.stackPageFixedHi

/-- `StackAddr()`, R24. -/
def State.stackAddr (s : State) : Addr := addrOf s.stackPageHi s.sp

/-- `Push(v)`, R25. -/
def State.push (s : State) (v : Byte) : State :=
  (s.write s.stackAddr v).setSp (s.sp - 1#8)

/-- The state after `Pull()`, R26. -/
def State.pulled (s : State) : State := s.setSp (s.sp + 1#8)

/-- The byte that `Pull()` returns, R26. -/
def State.pullByte (s : State) (acc : Access) : Byte := s.pulled.read acc s.pulled.stackAddr

/-! ### Taking an exception and returning from one -/

/-- PC from the two-byte vector at `vec`, the low byte first (R70, R315). -/
def State.takeVector (s : State) (vec : Addr) : State :=
  s.setPc (addrOf (s.read .vectorHi (vec + 1#16)) (s.read .vectorLo vec))

/-- The three pushes of R275 and R314 (PC_H, PC_L, PS with bit 4 = `b`), then I. -/
def State.saveFrame (s : State) (ret : Addr) (b newI : Bool) : State :=
  let t := ((s.push (hiByte ret)).push (loByte ret)).push (s.ps.toByte b)
  t.setPs { s.ps with i := newI }

/-- TAKING AN EXCEPTION, the one operation behind BRK (R275, R318) and interrupt entry (R314): save `ret` and PS, set
I, acknowledge, go to the vector. N V T D Z C of the live PS, A, X and Y are unchanged (D11). -/
def State.takeException (s : State) (ret : Addr) (b newI : Bool) (acknowledge : State → State) (vec : Addr) : State :=
  (acknowledge (s.saveFrame ret b newI)).takeVector vec

/-- RETURNING FROM ONE: PS, PC_L and PC_H pulled in that order (R263, R320); bit 4 of the pulled PS is discarded, and
nothing is added to the pulled address. -/
def State.returnFromException (s : State) : State :=
  let p := s.pullByte .pull1
  let s1 := s.pulled.setPs (PS.ofByte p)
  let lo := s1.pullByte .pull2
  let s2 := s1.pulled
  let hi := s2.pullByte .pull3
  s2.pulled.setPc (addrOf hi lo)

/-! ### Interrupts -/

/-- The request bit of source `k` as the acceptance condition sees it: set for a forced source (R355), old or new for
one that the previous instruction changed (R354), else the bit. -/
def State.requestSeen (s : State) (k : Nat) (src : IrqSource) : Bool :=
  if s.window.forced.contains k then true
  else if s.window.fresh.contains k then Config.freeBit s.tick (.accept k)
  else s.latch src.request

/-- Source `k` is acceptable: request and enable are 1 and I is 0 (R312). -/
def State.acceptable (s : State) (k : Nat) (src : IrqSource) : Bool :=
  s.requestSeen k src && s.latch src.enable && !s.ps.i

/-- The first of the sources, numbered from `k`, that `f` holds of: the highest priority (R317). -/
def firstSource (f : Nat → IrqSource → Bool) : Nat → List IrqSource → Option (Nat × IrqSource)
  | _, [] => none
  | k, src :: rest => if f k src then some (k, src) else firstSource f (k + 1) rest

/-- The interrupt that the boundary would enter (R313, R317). -/
def State.nextInterrupt (s : State) : Option (Nat × IrqSource) :=
  firstSource s.acceptable 0 s.cfg.sources

/-- `IRQ_ACK(k)`, P19 and R327. -/
def State.acknowledge (src : IrqSource) (s : State) : State :=
  match s.cfg.irqAck with
  | .clear => s.setLatch src.request false
  | .leave => s

/-- `raise Interrupt(k)`, R314: PC holds the address of the next instruction; bit 4 of the pushed PS is 0 (R316). -/
def State.enterInterrupt (s : State) (src : IrqSource) : State :=
  s.takeException s.pc false true (State.acknowledge src) src.vector

/-- `VEC_BRK`, P14 and R324: the part's own, or the vector of the lowest-priority source where P12 is false. -/
def vecBrk (c : Config) : Addr :=
  if c.part.brkVectorIndependent then c.vecBrkOwn
  else match c.sources.getLast? with
    | some src => src.vector
    | none => c.vecBrkOwn

/-- The three conditions of the BRK bug (R333) hold: I = 1 and some source's request and enable bits are 1. The request
bit is taken as the acceptance condition takes it: old or new where the previous instruction changed it (R354), 1 where
it was cleared together with the enabling (R355). DESIGN CHOICE (log entry 13): R333 does not say which of the two
views of an unsettled request bit its condition means. -/
def State.brkBugHolds (s : State) : Bool :=
  s.cfg.part.brkBug && s.ps.i &&
    (firstSource (fun k src => s.requestSeen k src && s.latch src.enable) 0 s.cfg.sources).isSome

/-- The address BRK stacks, R275 (P16). -/
def State.brkReturn (s : State) : Addr :=
  s.pc + (match s.cfg.brkOffset with | .one => 1#16 | .two => 2#16)

/-- `raise Brk`, R275 and R318. Where the BRK bug holds, I becomes 0 in place of 1: the continuation R333 offers
(log entry 13). -/
def State.enterBrk (s : State) : State :=
  s.takeException s.brkReturn true (!s.brkBugHolds) (fun t => t) (vecBrk s.cfg)

/-! ### Reset -/

/-- The request and enable bits of a source at their reset values (R44, P15). -/
def State.resetSource (s : State) (src : IrqSource) : State :=
  (s.setLatch src.request src.requestReset).setLatch src.enable src.enableReset

/-- A reset event, R350: I = 1, B = 0, every other flag and A, X, Y, S drawn, SPS and the interrupt bits at their
parameters, running, PC from the reset vector. Memory is otherwise kept (log entry 9). -/
def State.resetEvent (s : State) : State :=
  let draw (d : Draw) : Bool := Config.freeBit s.tick d
  let ps : PS := { n := draw .resetN, v := draw .resetV, t := draw .resetT, d := draw .resetD, i := true,
                   z := draw .resetZ, c := draw .resetC }
  let s1 := (((s.setA (Config.freeByte s.tick .resetA)).setX (Config.freeByte s.tick .resetX)).setY
    (Config.freeByte s.tick .resetY)).setSp (Config.freeByte s.tick .resetS)
  let s2 := if s.cfg.hasSps then s1.setLatch (spsLoc s.cfg) s.cfg.spsReset else s1
  let s3 := s.cfg.sources.foldl State.resetSource s2
  (((s3.setPs ps).setRun .running).setWindow .closed).takeVector s.cfg.vecReset

end Sys2Proof.Machine
end

