-- ==== Sys2Proof/Machine/Operands.lean ====
section
/-! DEFINITION. The operand forms: effective addresses (R121 to R139), the operand's value, and the two meanings of
"accumulator" in the T-sensitive instructions (R140, R201). -/

namespace Sys2Proof.Machine

/-- The two bytes of a zero-page pointer, the low byte at `z` and the high byte at `z + 1` modulo 256 (R131, R132,
R134, R82). -/
def State.zpPointer (s : State) (z : Byte) : Addr :=
  addrOf (s.read .pointerHi (zpAddr (z + 1#8))) (s.read .pointerLo (zpAddr z))

end Sys2Proof.Machine

namespace Sys2Proof

open Machine

/-- The effective address `EA` of a memory operand. -/
def MemOperand.ea (m : MemOperand) (s : State) : Addr :=
  match m with
  | .zp z => zpAddr z
  | .zpX z => zpAddr (z + s.x)
  | .zpY z => zpAddr (z + s.y)
  | .abs a => a
  | .absX a => a + zext16 s.x
  | .absY a => a + zext16 s.y
  | .indX z => s.zpPointer (z + s.x)
  | .indY z => s.zpPointer z + zext16 s.y

/-- The operand's value, `M` of R120 (A in the accumulator mode, R122). -/
def Operand.value (o : Operand) (s : State) : Byte :=
  match o with
  | .imm v => v
  | .acc => s.a
  | .mem m => s.read .data (m.ea s)

/-- `Write(r)` of a read-modify-write instruction: A or `EA` (R73, R122). No instruction writes an immediate. -/
def Operand.put (o : Operand) (r : Byte) (s : State) : State :=
  match o with
  | .imm _ => s
  | .acc => s.setA r
  | .mem m => s.write (m.ea s) r

end Sys2Proof

namespace Sys2Proof.Machine

/-- `acc` of R201: A, or the zero-page byte that X addresses when T = 1. -/
def State.accIn (s : State) : Byte := if s.ps.t then s.read .dest (zpAddr s.x) else s.a

/-- `WriteAcc(r)` of R201: to A, or to the zero-page byte that X addresses when T = 1. -/
def State.accOut (s : State) (r : Byte) : State := if s.ps.t then s.write (zpAddr s.x) r else s.setA r

/-- `next`, R9: the address after an instruction of `len` bytes at PC. -/
def State.nextPc (s : State) (len : Nat) : Addr := s.pc + BitVec.ofNat 16 len

/-- The branch target, R95: the offset added to the address after the instruction. -/
def State.branchTarget (s : State) (len : Nat) (r : Byte) : Addr := s.nextPc len + sext16 r

/-- PC to the branch target if `taken`, else past the instruction (R130, R136, R138). -/
def State.branch (s : State) (len : Nat) (taken : Bool) (r : Byte) : State :=
  s.setPc (if taken then s.branchTarget len r else s.nextPc len)

end Sys2Proof.Machine
end

