-- ==== Sys2Proof/Machine/Arith.lean ====
section
/-! DEFINITION. Arithmetic, logic, compare, test, register increment and multiply/divide (rules R180 to R191, R195 to
R202). -/

namespace Sys2Proof.Machine

/-- A T-sensitive operation with a result (R201): `f` of `acc`, M and PS; the result to A, or to the zero-page byte X
addresses when T = 1. M is read first, then `acc` (R74). -/
def aluOp (f : Byte → Byte → PS → Byte × PS) (o : Operand) (s : State) : State :=
  let r := f s.accIn (o.value s) s.ps
  (s.accOut r.1).setPs r.2

/-- ADC in both radices (R180, R182). -/
def addWithCarry (tick : Nat) (acc m : Byte) (p : PS) : Byte × PS :=
  if p.d then addDecimal tick acc m p else addBinary acc m p

/-- SBC in both radices (R181, R183). -/
def subWithCarry (tick : Nat) (acc m : Byte) (p : PS) : Byte × PS :=
  if p.d then subDecimal tick acc m p else subBinary acc m p

/-- AND (R184). -/
def logicAnd (acc m : Byte) (p : PS) : Byte × PS := (acc &&& m, p.setNZ (acc &&& m))

/-- ORA (R185). -/
def logicOr (acc m : Byte) (p : PS) : Byte × PS := (acc ||| m, p.setNZ (acc ||| m))

/-- EOR (R186). -/
def logicXor (acc m : Byte) (p : PS) : Byte × PS := (acc ^^^ m, p.setNZ (acc ^^^ m))

/-- CMP, CPX, CPY (R187 to R189): the flags of `r` less M; nothing else is written. -/
def compareWith (r : Byte) (o : Operand) (s : State) : State := s.setPs (compareFlags r (o.value s) s.ps)

/-- BIT (R190): always A, whatever T is. -/
def testBits (o : Operand) (s : State) : State := s.setPs (bitFlags s.a (o.value s) s.ps)

/-- TST (R191). -/
def testByte (o : Operand) (s : State) : State := s.setPs (s.ps.setNZ (o.value s))

/-- MUL (R199): A times the byte, unsigned; the low byte to A, the high byte pushed. -/
def multiply (z : Byte) (s : State) : State :=
  let m := s.read .data (zpAddr (z + s.x))
  let p : BitVec 16 := s.a.setWidth 16 * m.setWidth 16
  (s.setA (loByte p)).push (hiByte p)

/-- The 16-bit dividend of DIV (R200, D16), the low byte at the lower zero-page address. -/
def dividend (z : Byte) (s : State) : Nat :=
  (addrOf (s.read .dataHi (zpAddr (z + s.x + 1#8))) (s.read .data (zpAddr (z + s.x)))).toNat

/-- DIV (R200): the quotient to A, the one's complement of the remainder pushed; both are free values where the divisor
is 0 or the quotient does not fit a byte (D15). -/
def divide (z : Byte) (s : State) : State :=
  let n := dividend z s
  let d := s.a.toNat
  if d ≠ 0 ∧ n / d ≤ 255 then
    (s.setA (BitVec.ofNat 8 (n / d))).push (~~~(BitVec.ofNat 8 (n % d)))
  else
    (s.setA (Config.freeByte s.tick .divQuotient)).push (Config.freeByte s.tick .divPushed)

/-- ADC IMM (R180, R182, R121). -/
def execAdcImm (v : Byte) (s : State) : Host.Outcome State Fault Refusal :=
  .next ((aluOp (addWithCarry s.tick) (.imm v) s).advance 2)

/-- ADC ZP (R180, R182, R123). -/
def execAdcZp (z : Byte) (s : State) : Host.Outcome State Fault Refusal :=
  .next ((aluOp (addWithCarry s.tick) (.mem (.zp z)) s).advance 2)

/-- ADC ZP,X (R180, R182, R124). -/
def execAdcZpX (z : Byte) (s : State) : Host.Outcome State Fault Refusal :=
  .next ((aluOp (addWithCarry s.tick) (.mem (.zpX z)) s).advance 2)

/-- ADC ABS (R180, R182, R126). -/
def execAdcAbs (a : Addr) (s : State) : Host.Outcome State Fault Refusal :=
  .next ((aluOp (addWithCarry s.tick) (.mem (.abs a)) s).advance 3)

/-- ADC ABS,X (R180, R182, R127). -/
def execAdcAbsX (a : Addr) (s : State) : Host.Outcome State Fault Refusal :=
  .next ((aluOp (addWithCarry s.tick) (.mem (.absX a)) s).advance 3)

/-- ADC ABS,Y (R180, R182, R128). -/
def execAdcAbsY (a : Addr) (s : State) : Host.Outcome State Fault Refusal :=
  .next ((aluOp (addWithCarry s.tick) (.mem (.absY a)) s).advance 3)

/-- ADC IND,X (R180, R182, R131). -/
def execAdcIndX (z : Byte) (s : State) : Host.Outcome State Fault Refusal :=
  .next ((aluOp (addWithCarry s.tick) (.mem (.indX z)) s).advance 2)

/-- ADC IND,Y (R180, R182, R132). -/
def execAdcIndY (z : Byte) (s : State) : Host.Outcome State Fault Refusal :=
  .next ((aluOp (addWithCarry s.tick) (.mem (.indY z)) s).advance 2)

/-- SBC IMM (R181, R183, R121). -/
def execSbcImm (v : Byte) (s : State) : Host.Outcome State Fault Refusal :=
  .next ((aluOp (subWithCarry s.tick) (.imm v) s).advance 2)

/-- SBC ZP (R181, R183, R123). -/
def execSbcZp (z : Byte) (s : State) : Host.Outcome State Fault Refusal :=
  .next ((aluOp (subWithCarry s.tick) (.mem (.zp z)) s).advance 2)

/-- SBC ZP,X (R181, R183, R124). -/
def execSbcZpX (z : Byte) (s : State) : Host.Outcome State Fault Refusal :=
  .next ((aluOp (subWithCarry s.tick) (.mem (.zpX z)) s).advance 2)

/-- SBC ABS (R181, R183, R126). -/
def execSbcAbs (a : Addr) (s : State) : Host.Outcome State Fault Refusal :=
  .next ((aluOp (subWithCarry s.tick) (.mem (.abs a)) s).advance 3)

/-- SBC ABS,X (R181, R183, R127). -/
def execSbcAbsX (a : Addr) (s : State) : Host.Outcome State Fault Refusal :=
  .next ((aluOp (subWithCarry s.tick) (.mem (.absX a)) s).advance 3)

/-- SBC ABS,Y (R181, R183, R128). -/
def execSbcAbsY (a : Addr) (s : State) : Host.Outcome State Fault Refusal :=
  .next ((aluOp (subWithCarry s.tick) (.mem (.absY a)) s).advance 3)

/-- SBC IND,X (R181, R183, R131). -/
def execSbcIndX (z : Byte) (s : State) : Host.Outcome State Fault Refusal :=
  .next ((aluOp (subWithCarry s.tick) (.mem (.indX z)) s).advance 2)

/-- SBC IND,Y (R181, R183, R132). -/
def execSbcIndY (z : Byte) (s : State) : Host.Outcome State Fault Refusal :=
  .next ((aluOp (subWithCarry s.tick) (.mem (.indY z)) s).advance 2)

/-- AND IMM (R184, R121). -/
def execAndImm (v : Byte) (s : State) : Host.Outcome State Fault Refusal :=
  .next ((aluOp logicAnd (.imm v) s).advance 2)

/-- AND ZP (R184, R123). -/
def execAndZp (z : Byte) (s : State) : Host.Outcome State Fault Refusal :=
  .next ((aluOp logicAnd (.mem (.zp z)) s).advance 2)

/-- AND ZP,X (R184, R124). -/
def execAndZpX (z : Byte) (s : State) : Host.Outcome State Fault Refusal :=
  .next ((aluOp logicAnd (.mem (.zpX z)) s).advance 2)

/-- AND ABS (R184, R126). -/
def execAndAbs (a : Addr) (s : State) : Host.Outcome State Fault Refusal :=
  .next ((aluOp logicAnd (.mem (.abs a)) s).advance 3)

/-- AND ABS,X (R184, R127). -/
def execAndAbsX (a : Addr) (s : State) : Host.Outcome State Fault Refusal :=
  .next ((aluOp logicAnd (.mem (.absX a)) s).advance 3)

/-- AND ABS,Y (R184, R128). -/
def execAndAbsY (a : Addr) (s : State) : Host.Outcome State Fault Refusal :=
  .next ((aluOp logicAnd (.mem (.absY a)) s).advance 3)

/-- AND IND,X (R184, R131). -/
def execAndIndX (z : Byte) (s : State) : Host.Outcome State Fault Refusal :=
  .next ((aluOp logicAnd (.mem (.indX z)) s).advance 2)

/-- AND IND,Y (R184, R132). -/
def execAndIndY (z : Byte) (s : State) : Host.Outcome State Fault Refusal :=
  .next ((aluOp logicAnd (.mem (.indY z)) s).advance 2)

/-- ORA IMM (R185, R121). -/
def execOraImm (v : Byte) (s : State) : Host.Outcome State Fault Refusal :=
  .next ((aluOp logicOr (.imm v) s).advance 2)

/-- ORA ZP (R185, R123). -/
def execOraZp (z : Byte) (s : State) : Host.Outcome State Fault Refusal :=
  .next ((aluOp logicOr (.mem (.zp z)) s).advance 2)

/-- ORA ZP,X (R185, R124). -/
def execOraZpX (z : Byte) (s : State) : Host.Outcome State Fault Refusal :=
  .next ((aluOp logicOr (.mem (.zpX z)) s).advance 2)

/-- ORA ABS (R185, R126). -/
def execOraAbs (a : Addr) (s : State) : Host.Outcome State Fault Refusal :=
  .next ((aluOp logicOr (.mem (.abs a)) s).advance 3)

/-- ORA ABS,X (R185, R127). -/
def execOraAbsX (a : Addr) (s : State) : Host.Outcome State Fault Refusal :=
  .next ((aluOp logicOr (.mem (.absX a)) s).advance 3)

/-- ORA ABS,Y (R185, R128). -/
def execOraAbsY (a : Addr) (s : State) : Host.Outcome State Fault Refusal :=
  .next ((aluOp logicOr (.mem (.absY a)) s).advance 3)

/-- ORA IND,X (R185, R131). -/
def execOraIndX (z : Byte) (s : State) : Host.Outcome State Fault Refusal :=
  .next ((aluOp logicOr (.mem (.indX z)) s).advance 2)

/-- ORA IND,Y (R185, R132). -/
def execOraIndY (z : Byte) (s : State) : Host.Outcome State Fault Refusal :=
  .next ((aluOp logicOr (.mem (.indY z)) s).advance 2)

/-- EOR IMM (R186, R121). -/
def execEorImm (v : Byte) (s : State) : Host.Outcome State Fault Refusal :=
  .next ((aluOp logicXor (.imm v) s).advance 2)

/-- EOR ZP (R186, R123). -/
def execEorZp (z : Byte) (s : State) : Host.Outcome State Fault Refusal :=
  .next ((aluOp logicXor (.mem (.zp z)) s).advance 2)

/-- EOR ZP,X (R186, R124). -/
def execEorZpX (z : Byte) (s : State) : Host.Outcome State Fault Refusal :=
  .next ((aluOp logicXor (.mem (.zpX z)) s).advance 2)

/-- EOR ABS (R186, R126). -/
def execEorAbs (a : Addr) (s : State) : Host.Outcome State Fault Refusal :=
  .next ((aluOp logicXor (.mem (.abs a)) s).advance 3)

/-- EOR ABS,X (R186, R127). -/
def execEorAbsX (a : Addr) (s : State) : Host.Outcome State Fault Refusal :=
  .next ((aluOp logicXor (.mem (.absX a)) s).advance 3)

/-- EOR ABS,Y (R186, R128). -/
def execEorAbsY (a : Addr) (s : State) : Host.Outcome State Fault Refusal :=
  .next ((aluOp logicXor (.mem (.absY a)) s).advance 3)

/-- EOR IND,X (R186, R131). -/
def execEorIndX (z : Byte) (s : State) : Host.Outcome State Fault Refusal :=
  .next ((aluOp logicXor (.mem (.indX z)) s).advance 2)

/-- EOR IND,Y (R186, R132). -/
def execEorIndY (z : Byte) (s : State) : Host.Outcome State Fault Refusal :=
  .next ((aluOp logicXor (.mem (.indY z)) s).advance 2)

/-- CMP IMM (R187, R121). -/
def execCmpImm (v : Byte) (s : State) : Host.Outcome State Fault Refusal :=
  .next ((compareWith s.accIn (.imm v) s).advance 2)

/-- CMP ZP (R187, R123). -/
def execCmpZp (z : Byte) (s : State) : Host.Outcome State Fault Refusal :=
  .next ((compareWith s.accIn (.mem (.zp z)) s).advance 2)

/-- CMP ZP,X (R187, R124). -/
def execCmpZpX (z : Byte) (s : State) : Host.Outcome State Fault Refusal :=
  .next ((compareWith s.accIn (.mem (.zpX z)) s).advance 2)

/-- CMP ABS (R187, R126). -/
def execCmpAbs (a : Addr) (s : State) : Host.Outcome State Fault Refusal :=
  .next ((compareWith s.accIn (.mem (.abs a)) s).advance 3)

/-- CMP ABS,X (R187, R127). -/
def execCmpAbsX (a : Addr) (s : State) : Host.Outcome State Fault Refusal :=
  .next ((compareWith s.accIn (.mem (.absX a)) s).advance 3)

/-- CMP ABS,Y (R187, R128). -/
def execCmpAbsY (a : Addr) (s : State) : Host.Outcome State Fault Refusal :=
  .next ((compareWith s.accIn (.mem (.absY a)) s).advance 3)

/-- CMP IND,X (R187, R131). -/
def execCmpIndX (z : Byte) (s : State) : Host.Outcome State Fault Refusal :=
  .next ((compareWith s.accIn (.mem (.indX z)) s).advance 2)

/-- CMP IND,Y (R187, R132). -/
def execCmpIndY (z : Byte) (s : State) : Host.Outcome State Fault Refusal :=
  .next ((compareWith s.accIn (.mem (.indY z)) s).advance 2)

/-- CPX IMM (R188, R121). -/
def execCpxImm (v : Byte) (s : State) : Host.Outcome State Fault Refusal :=
  .next ((compareWith s.x (.imm v) s).advance 2)

/-- CPX ZP (R188, R123). -/
def execCpxZp (z : Byte) (s : State) : Host.Outcome State Fault Refusal :=
  .next ((compareWith s.x (.mem (.zp z)) s).advance 2)

/-- CPX ABS (R188, R126). -/
def execCpxAbs (a : Addr) (s : State) : Host.Outcome State Fault Refusal :=
  .next ((compareWith s.x (.mem (.abs a)) s).advance 3)

/-- CPY IMM (R189, R121). -/
def execCpyImm (v : Byte) (s : State) : Host.Outcome State Fault Refusal :=
  .next ((compareWith s.y (.imm v) s).advance 2)

/-- CPY ZP (R189, R123). -/
def execCpyZp (z : Byte) (s : State) : Host.Outcome State Fault Refusal :=
  .next ((compareWith s.y (.mem (.zp z)) s).advance 2)

/-- CPY ABS (R189, R126). -/
def execCpyAbs (a : Addr) (s : State) : Host.Outcome State Fault Refusal :=
  .next ((compareWith s.y (.mem (.abs a)) s).advance 3)

/-- BIT ZP (R190, R123). -/
def execBitZp (z : Byte) (s : State) : Host.Outcome State Fault Refusal :=
  .next ((testBits (.mem (.zp z)) s).advance 2)

/-- BIT ABS (R190, R126). -/
def execBitAbs (a : Addr) (s : State) : Host.Outcome State Fault Refusal :=
  .next ((testBits (.mem (.abs a)) s).advance 3)

/-- TST ZP (R191, R123). -/
def execTstZp (z : Byte) (s : State) : Host.Outcome State Fault Refusal :=
  .next ((testByte (.mem (.zp z)) s).advance 2)

/-- INX (R195). -/
def execInx (s : State) : Host.Outcome State Fault Refusal :=
  .next (((s.setX (s.x + 1#8)).setPs (s.ps.setNZ (s.x + 1#8))).advance 1)

/-- INY (R196). -/
def execIny (s : State) : Host.Outcome State Fault Refusal :=
  .next (((s.setY (s.y + 1#8)).setPs (s.ps.setNZ (s.y + 1#8))).advance 1)

/-- DEX (R197). -/
def execDex (s : State) : Host.Outcome State Fault Refusal :=
  .next (((s.setX (s.x - 1#8)).setPs (s.ps.setNZ (s.x - 1#8))).advance 1)

/-- DEY (R198). -/
def execDey (s : State) : Host.Outcome State Fault Refusal :=
  .next (((s.setY (s.y - 1#8)).setPs (s.ps.setNZ (s.y - 1#8))).advance 1)

/-- MUL ZP,X (R199, R124). -/
def execMulZpX (z : Byte) (s : State) : Host.Outcome State Fault Refusal :=
  .next ((multiply z s).advance 2)

/-- DIV ZP,X (R200, R124). -/
def execDivZpX (z : Byte) (s : State) : Host.Outcome State Fault Refusal :=
  .next ((divide z s).advance 2)

end Sys2Proof.Machine
end

