-- ==== Sys2Proof/Machine/Clock.lean ====
section
/-! DEFINITION. The clock-control instructions (rules R300 to R304). -/

namespace Sys2Proof.Machine


/-- STP (R300). -/
def execStp (s : State) : Host.Outcome State Fault Refusal :=
  .next ((s.advance 1).setRun .stoppedStp)

/-- WIT (R301). -/
def execWit (s : State) : Host.Outcome State Fault Refusal :=
  .next ((s.advance 1).setRun .stoppedWit)

/-- FST (R302). -/
def execFst (s : State) : Host.Outcome State Fault Refusal :=
  .next ((s.advance 1).setXoutf true)

/-- SLW (R303). -/
def execSlw (s : State) : Host.Outcome State Fault Refusal :=
  .next ((s.advance 1).setXoutf false)

end Sys2Proof.Machine
end

