-- ==== Sys2Proof/Machine/Control.lean ====
section
/-! DEFINITION. Jumps, subroutines, branches, BRK, RTI and NOP (rules R260 to R276). -/

namespace Sys2Proof.Machine

/-- JSR (R261): the address of the instruction's last byte pushed, PC_H first; the target is found after the pushes. -/
def call (len : Nat) (target : State → Addr) (s : State) : State :=
  let ret := s.nextPc len - 1#16
  let t := (s.push (hiByte ret)).push (loByte ret)
  t.setPc (target t)

/-- RTS (R262): the pulled address plus 1 (D32). -/
def returnFromCall (s : State) : State :=
  let lo := s.pullByte .pull1
  let hi := s.pulled.pullByte .pull2
  s.pulled.pulled.setPc (addrOf hi lo + 1#16)

/-- The jump of JMP IND through a pointer whose high byte is read at `second` (R133). -/
def jumpThrough (a second : Addr) (s : State) : State :=
  s.setPc (addrOf (s.read .pointerHi second) (s.read .pointerLo a))

/-- JMP IND (R133, R260): a pointer whose first byte is the last of a page is parameter P21's affair (R357). -/
def jumpIndirect (a : Addr) (s : State) : Host.Outcome State Fault Refusal :=
  if loByte a = 0xFF#8 then
    match s.cfg.jmpIndLastByte with
    | .refuse => .refused (.jmpIndirectAtPageEnd a)
    | .samePage => .next (jumpThrough a (addrOf (hiByte a) 0x00#8) s)
    | .nextPage => .next (jumpThrough a (a + 1#16) s)
  else .next (jumpThrough a (a + 1#16) s)

/-- Bit `b` of a byte (R273, R274). -/
def testBit (b : BitNo) (v : Byte) : Bool := v.getLsbD b.toNat

/-- JMP ABS (R260, R126). -/
def execJmpAbs (a : Addr) (s : State) : Host.Outcome State Fault Refusal :=
  .next (s.setPc a)

/-- JMP IND (R260, R133). -/
def execJmpInd (a : Addr) (s : State) : Host.Outcome State Fault Refusal :=
  jumpIndirect a s

/-- JMP ZP,IND (R260, R134). -/
def execJmpZpInd (z : Byte) (s : State) : Host.Outcome State Fault Refusal :=
  .next (s.setPc (s.zpPointer z))

/-- JSR ABS (R261, R126). -/
def execJsrAbs (a : Addr) (s : State) : Host.Outcome State Fault Refusal :=
  .next (call 3 (fun _ => a) s)

/-- JSR ZP,IND (R261, R134). -/
def execJsrZpInd (z : Byte) (s : State) : Host.Outcome State Fault Refusal :=
  .next (call 2 (fun t => t.zpPointer z) s)

/-- JSR SP (R261, R139). -/
def execJsrSp (l : Byte) (s : State) : Host.Outcome State Fault Refusal :=
  .next (call 2 (fun t => addrOf t.cfg.specialPageHi l) s)

/-- RTS (R262). -/
def execRts (s : State) : Host.Outcome State Fault Refusal :=
  .next (returnFromCall s)

/-- RTI (R263). -/
def execRti (s : State) : Host.Outcome State Fault Refusal :=
  .next s.returnFromException

/-- BCC REL (R264, R130). -/
def execBcc (r : Byte) (s : State) : Host.Outcome State Fault Refusal :=
  .next (s.branch 2 (!s.ps.c) r)

/-- BCS REL (R265, R130). -/
def execBcs (r : Byte) (s : State) : Host.Outcome State Fault Refusal :=
  .next (s.branch 2 (s.ps.c) r)

/-- BEQ REL (R266, R130). -/
def execBeq (r : Byte) (s : State) : Host.Outcome State Fault Refusal :=
  .next (s.branch 2 (s.ps.z) r)

/-- BNE REL (R267, R130). -/
def execBne (r : Byte) (s : State) : Host.Outcome State Fault Refusal :=
  .next (s.branch 2 (!s.ps.z) r)

/-- BMI REL (R268, R130). -/
def execBmi (r : Byte) (s : State) : Host.Outcome State Fault Refusal :=
  .next (s.branch 2 (s.ps.n) r)

/-- BPL REL (R269, R130). -/
def execBpl (r : Byte) (s : State) : Host.Outcome State Fault Refusal :=
  .next (s.branch 2 (!s.ps.n) r)

/-- BVC REL (R270, R130). -/
def execBvc (r : Byte) (s : State) : Host.Outcome State Fault Refusal :=
  .next (s.branch 2 (!s.ps.v) r)

/-- BVS REL (R271, R130). -/
def execBvs (r : Byte) (s : State) : Host.Outcome State Fault Refusal :=
  .next (s.branch 2 (s.ps.v) r)

/-- BRA REL (R272, R130). -/
def execBra (r : Byte) (s : State) : Host.Outcome State Fault Refusal :=
  .next (s.branch 2 (true) r)

/-- BBC BIT,A,REL (R273, R138). -/
def execBbcA (b : BitNo) (r : Byte) (s : State) : Host.Outcome State Fault Refusal :=
  .next (s.branch 2 (!testBit b s.a) r)

/-- BBC BIT,ZP,REL (R273, R136). -/
def execBbcZp (b : BitNo) (z : Byte) (r : Byte) (s : State) : Host.Outcome State Fault Refusal :=
  .next (s.branch 3 (!testBit b (s.read .data (zpAddr z))) r)

/-- BBS BIT,A,REL (R274, R138). -/
def execBbsA (b : BitNo) (r : Byte) (s : State) : Host.Outcome State Fault Refusal :=
  .next (s.branch 2 (testBit b s.a) r)

/-- BBS BIT,ZP,REL (R274, R136). -/
def execBbsZp (b : BitNo) (z : Byte) (r : Byte) (s : State) : Host.Outcome State Fault Refusal :=
  .next (s.branch 3 (testBit b (s.read .data (zpAddr z))) r)

/-- BRK (R275). -/
def execBrk (s : State) : Host.Outcome State Fault Refusal :=
  .next s.enterBrk

/-- NOP (R276). -/
def execNop (s : State) : Host.Outcome State Fault Refusal :=
  .next (s.advance 1)

end Sys2Proof.Machine
end

