-- ==== Sys2Proof/Machine/FlagOps.lean ====
section
/-! DEFINITION. The flag set and clear instructions (rules R240 to R248): one bit of PS and nothing else. -/

namespace Sys2Proof.Machine


/-- CLC (R240). -/
def execClc (s : State) : Host.Outcome State Fault Refusal :=
  .next ((s.setPs { s.ps with c := false }).advance 1)

/-- SEC (R241). -/
def execSec (s : State) : Host.Outcome State Fault Refusal :=
  .next ((s.setPs { s.ps with c := true }).advance 1)

/-- CLD (R242). -/
def execCld (s : State) : Host.Outcome State Fault Refusal :=
  .next ((s.setPs { s.ps with d := false }).advance 1)

/-- SED (R243). -/
def execSed (s : State) : Host.Outcome State Fault Refusal :=
  .next ((s.setPs { s.ps with d := true }).advance 1)

/-- CLI (R244). -/
def execCli (s : State) : Host.Outcome State Fault Refusal :=
  .next ((s.setPs { s.ps with i := false }).advance 1)

/-- SEI (R245). -/
def execSei (s : State) : Host.Outcome State Fault Refusal :=
  .next ((s.setPs { s.ps with i := true }).advance 1)

/-- CLT (R246). -/
def execClt (s : State) : Host.Outcome State Fault Refusal :=
  .next ((s.setPs { s.ps with t := false }).advance 1)

/-- SET (R247). -/
def execSet (s : State) : Host.Outcome State Fault Refusal :=
  .next ((s.setPs { s.ps with t := true }).advance 1)

/-- CLV (R248). -/
def execClv (s : State) : Host.Outcome State Fault Refusal :=
  .next ((s.setPs { s.ps with v := false }).advance 1)

end Sys2Proof.Machine
end

