-- ==== Sys2Proof/Machine/LoadStore.lean ====
section
/-! DEFINITION. Load, store, transfer and stack instructions (rules R150 to R166). -/

namespace Sys2Proof.Machine

/-- LDA (R150): the operand to A, or to the zero-page byte X addresses when T = 1; N and Z of it. -/
def loadA (o : Operand) (s : State) : State :=
  (s.accOut (o.value s)).setPs (s.ps.setNZ (o.value s))

/-- LDX (R151). -/
def loadX (o : Operand) (s : State) : State :=
  (s.setX (o.value s)).setPs (s.ps.setNZ (o.value s))

/-- LDY (R152). -/
def loadY (o : Operand) (s : State) : State :=
  (s.setY (o.value s)).setPs (s.ps.setNZ (o.value s))

/-- STA, STX, STY (R154 to R156): the byte to `EA`, which is not read; no flag. -/
def storeByte (m : MemOperand) (v : Byte) (s : State) : State := s.write (m.ea s) v

/-- LDA IMM (R150, R121). -/
def execLdaImm (v : Byte) (s : State) : Host.Outcome State Fault Refusal :=
  .next ((loadA (.imm v) s).advance 2)

/-- LDA ZP (R150, R123). -/
def execLdaZp (z : Byte) (s : State) : Host.Outcome State Fault Refusal :=
  .next ((loadA (.mem (.zp z)) s).advance 2)

/-- LDA ZP,X (R150, R124). -/
def execLdaZpX (z : Byte) (s : State) : Host.Outcome State Fault Refusal :=
  .next ((loadA (.mem (.zpX z)) s).advance 2)

/-- LDA ABS (R150, R126). -/
def execLdaAbs (a : Addr) (s : State) : Host.Outcome State Fault Refusal :=
  .next ((loadA (.mem (.abs a)) s).advance 3)

/-- LDA ABS,X (R150, R127). -/
def execLdaAbsX (a : Addr) (s : State) : Host.Outcome State Fault Refusal :=
  .next ((loadA (.mem (.absX a)) s).advance 3)

/-- LDA ABS,Y (R150, R128). -/
def execLdaAbsY (a : Addr) (s : State) : Host.Outcome State Fault Refusal :=
  .next ((loadA (.mem (.absY a)) s).advance 3)

/-- LDA IND,X (R150, R131). -/
def execLdaIndX (z : Byte) (s : State) : Host.Outcome State Fault Refusal :=
  .next ((loadA (.mem (.indX z)) s).advance 2)

/-- LDA IND,Y (R150, R132). -/
def execLdaIndY (z : Byte) (s : State) : Host.Outcome State Fault Refusal :=
  .next ((loadA (.mem (.indY z)) s).advance 2)

/-- LDX IMM (R151, R121). -/
def execLdxImm (v : Byte) (s : State) : Host.Outcome State Fault Refusal :=
  .next ((loadX (.imm v) s).advance 2)

/-- LDX ZP (R151, R123). -/
def execLdxZp (z : Byte) (s : State) : Host.Outcome State Fault Refusal :=
  .next ((loadX (.mem (.zp z)) s).advance 2)

/-- LDX ZP,Y (R151, R125). -/
def execLdxZpY (z : Byte) (s : State) : Host.Outcome State Fault Refusal :=
  .next ((loadX (.mem (.zpY z)) s).advance 2)

/-- LDX ABS (R151, R126). -/
def execLdxAbs (a : Addr) (s : State) : Host.Outcome State Fault Refusal :=
  .next ((loadX (.mem (.abs a)) s).advance 3)

/-- LDX ABS,Y (R151, R128). -/
def execLdxAbsY (a : Addr) (s : State) : Host.Outcome State Fault Refusal :=
  .next ((loadX (.mem (.absY a)) s).advance 3)

/-- LDY IMM (R152, R121). -/
def execLdyImm (v : Byte) (s : State) : Host.Outcome State Fault Refusal :=
  .next ((loadY (.imm v) s).advance 2)

/-- LDY ZP (R152, R123). -/
def execLdyZp (z : Byte) (s : State) : Host.Outcome State Fault Refusal :=
  .next ((loadY (.mem (.zp z)) s).advance 2)

/-- LDY ZP,X (R152, R124). -/
def execLdyZpX (z : Byte) (s : State) : Host.Outcome State Fault Refusal :=
  .next ((loadY (.mem (.zpX z)) s).advance 2)

/-- LDY ABS (R152, R126). -/
def execLdyAbs (a : Addr) (s : State) : Host.Outcome State Fault Refusal :=
  .next ((loadY (.mem (.abs a)) s).advance 3)

/-- LDY ABS,X (R152, R127). -/
def execLdyAbsX (a : Addr) (s : State) : Host.Outcome State Fault Refusal :=
  .next ((loadY (.mem (.absX a)) s).advance 3)

/-- LDM ZP (R153, R123). -/
def execLdm (v : Byte) (z : Byte) (s : State) : Host.Outcome State Fault Refusal :=
  .next ((s.write (zpAddr z) v).advance 3)

/-- STA ZP (R154, R123). -/
def execStaZp (z : Byte) (s : State) : Host.Outcome State Fault Refusal :=
  .next ((storeByte (.zp z) s.a s).advance 2)

/-- STA ZP,X (R154, R124). -/
def execStaZpX (z : Byte) (s : State) : Host.Outcome State Fault Refusal :=
  .next ((storeByte (.zpX z) s.a s).advance 2)

/-- STA ABS (R154, R126). -/
def execStaAbs (a : Addr) (s : State) : Host.Outcome State Fault Refusal :=
  .next ((storeByte (.abs a) s.a s).advance 3)

/-- STA ABS,X (R154, R127). -/
def execStaAbsX (a : Addr) (s : State) : Host.Outcome State Fault Refusal :=
  .next ((storeByte (.absX a) s.a s).advance 3)

/-- STA ABS,Y (R154, R128). -/
def execStaAbsY (a : Addr) (s : State) : Host.Outcome State Fault Refusal :=
  .next ((storeByte (.absY a) s.a s).advance 3)

/-- STA IND,X (R154, R131). -/
def execStaIndX (z : Byte) (s : State) : Host.Outcome State Fault Refusal :=
  .next ((storeByte (.indX z) s.a s).advance 2)

/-- STA IND,Y (R154, R132). -/
def execStaIndY (z : Byte) (s : State) : Host.Outcome State Fault Refusal :=
  .next ((storeByte (.indY z) s.a s).advance 2)

/-- STX ZP (R155, R123). -/
def execStxZp (z : Byte) (s : State) : Host.Outcome State Fault Refusal :=
  .next ((storeByte (.zp z) s.x s).advance 2)

/-- STX ZP,Y (R155, R125). -/
def execStxZpY (z : Byte) (s : State) : Host.Outcome State Fault Refusal :=
  .next ((storeByte (.zpY z) s.x s).advance 2)

/-- STX ABS (R155, R126). -/
def execStxAbs (a : Addr) (s : State) : Host.Outcome State Fault Refusal :=
  .next ((storeByte (.abs a) s.x s).advance 3)

/-- STY ZP (R156, R123). -/
def execStyZp (z : Byte) (s : State) : Host.Outcome State Fault Refusal :=
  .next ((storeByte (.zp z) s.y s).advance 2)

/-- STY ZP,X (R156, R124). -/
def execStyZpX (z : Byte) (s : State) : Host.Outcome State Fault Refusal :=
  .next ((storeByte (.zpX z) s.y s).advance 2)

/-- STY ABS (R156, R126). -/
def execStyAbs (a : Addr) (s : State) : Host.Outcome State Fault Refusal :=
  .next ((storeByte (.abs a) s.y s).advance 3)

/-- TAX (R157). -/
def execTax (s : State) : Host.Outcome State Fault Refusal :=
  .next (((s.setX s.a).setPs (s.ps.setNZ s.a)).advance 1)

/-- TAY (R158). -/
def execTay (s : State) : Host.Outcome State Fault Refusal :=
  .next (((s.setY s.a).setPs (s.ps.setNZ s.a)).advance 1)

/-- TSX (R159). -/
def execTsx (s : State) : Host.Outcome State Fault Refusal :=
  .next (((s.setX s.sp).setPs (s.ps.setNZ s.sp)).advance 1)

/-- TXA (R160). -/
def execTxa (s : State) : Host.Outcome State Fault Refusal :=
  .next (((s.setA s.x).setPs (s.ps.setNZ s.x)).advance 1)

/-- TXS (R161). -/
def execTxs (s : State) : Host.Outcome State Fault Refusal :=
  .next ((s.setSp s.x).advance 1)

/-- TYA (R162). -/
def execTya (s : State) : Host.Outcome State Fault Refusal :=
  .next (((s.setA s.y).setPs (s.ps.setNZ s.y)).advance 1)

/-- PHA (R163). -/
def execPha (s : State) : Host.Outcome State Fault Refusal :=
  .next ((s.push s.a).advance 1)

/-- PHP (R164). -/
def execPhp (s : State) : Host.Outcome State Fault Refusal :=
  .next ((s.push (s.ps.toByte false)).advance 1)

/-- PLA (R165). -/
def execPla (s : State) : Host.Outcome State Fault Refusal :=
  .next (((s.pulled.setA (s.pullByte .pull1)).setPs (s.ps.setNZ (s.pullByte .pull1))).advance 1)

/-- PLP (R166). -/
def execPlp (s : State) : Host.Outcome State Fault Refusal :=
  .next ((s.pulled.setPs (PS.ofByte (s.pullByte .pull1))).advance 1)

end Sys2Proof.Machine
end

