-- ==== Sys2Proof/Machine/Modify.lean ====
section
/-! DEFINITION. The read-modify-write instructions: COM, INC, DEC (R192 to R194), the shifts and rotates, RRF, CLB
and SEB (R220 to R226). -/

namespace Sys2Proof.Machine

/-- A read-modify-write instruction (R73, R122): the operand read once, `f` applied to it and to PS, the result written
once to where it was read. -/
def readModifyWrite (f : Byte → PS → Byte × PS) (o : Operand) (s : State) : State :=
  (o.put (f (o.value s) s.ps).1 s).setPs (f (o.value s) s.ps).2

/-- COM ZP (R192, R123). -/
def execComZp (z : Byte) (s : State) : Host.Outcome State Fault Refusal :=
  .next ((readModifyWrite complement (.mem (.zp z)) s).advance 2)

/-- INC A (R193, R122). -/
def execIncA (s : State) : Host.Outcome State Fault Refusal :=
  .next ((readModifyWrite increment .acc s).advance 1)

/-- INC ZP (R193, R123). -/
def execIncZp (z : Byte) (s : State) : Host.Outcome State Fault Refusal :=
  .next ((readModifyWrite increment (.mem (.zp z)) s).advance 2)

/-- INC ZP,X (R193, R124). -/
def execIncZpX (z : Byte) (s : State) : Host.Outcome State Fault Refusal :=
  .next ((readModifyWrite increment (.mem (.zpX z)) s).advance 2)

/-- INC ABS (R193, R126). -/
def execIncAbs (a : Addr) (s : State) : Host.Outcome State Fault Refusal :=
  .next ((readModifyWrite increment (.mem (.abs a)) s).advance 3)

/-- INC ABS,X (R193, R127). -/
def execIncAbsX (a : Addr) (s : State) : Host.Outcome State Fault Refusal :=
  .next ((readModifyWrite increment (.mem (.absX a)) s).advance 3)

/-- DEC A (R194, R122). -/
def execDecA (s : State) : Host.Outcome State Fault Refusal :=
  .next ((readModifyWrite decrement .acc s).advance 1)

/-- DEC ZP (R194, R123). -/
def execDecZp (z : Byte) (s : State) : Host.Outcome State Fault Refusal :=
  .next ((readModifyWrite decrement (.mem (.zp z)) s).advance 2)

/-- DEC ZP,X (R194, R124). -/
def execDecZpX (z : Byte) (s : State) : Host.Outcome State Fault Refusal :=
  .next ((readModifyWrite decrement (.mem (.zpX z)) s).advance 2)

/-- DEC ABS (R194, R126). -/
def execDecAbs (a : Addr) (s : State) : Host.Outcome State Fault Refusal :=
  .next ((readModifyWrite decrement (.mem (.abs a)) s).advance 3)

/-- DEC ABS,X (R194, R127). -/
def execDecAbsX (a : Addr) (s : State) : Host.Outcome State Fault Refusal :=
  .next ((readModifyWrite decrement (.mem (.absX a)) s).advance 3)

/-- ASL A (R220, R122). -/
def execAslA (s : State) : Host.Outcome State Fault Refusal :=
  .next ((readModifyWrite shiftLeft .acc s).advance 1)

/-- ASL ZP (R220, R123). -/
def execAslZp (z : Byte) (s : State) : Host.Outcome State Fault Refusal :=
  .next ((readModifyWrite shiftLeft (.mem (.zp z)) s).advance 2)

/-- ASL ZP,X (R220, R124). -/
def execAslZpX (z : Byte) (s : State) : Host.Outcome State Fault Refusal :=
  .next ((readModifyWrite shiftLeft (.mem (.zpX z)) s).advance 2)

/-- ASL ABS (R220, R126). -/
def execAslAbs (a : Addr) (s : State) : Host.Outcome State Fault Refusal :=
  .next ((readModifyWrite shiftLeft (.mem (.abs a)) s).advance 3)

/-- ASL ABS,X (R220, R127). -/
def execAslAbsX (a : Addr) (s : State) : Host.Outcome State Fault Refusal :=
  .next ((readModifyWrite shiftLeft (.mem (.absX a)) s).advance 3)

/-- LSR A (R221, R122). -/
def execLsrA (s : State) : Host.Outcome State Fault Refusal :=
  .next ((readModifyWrite shiftRight .acc s).advance 1)

/-- LSR ZP (R221, R123). -/
def execLsrZp (z : Byte) (s : State) : Host.Outcome State Fault Refusal :=
  .next ((readModifyWrite shiftRight (.mem (.zp z)) s).advance 2)

/-- LSR ZP,X (R221, R124). -/
def execLsrZpX (z : Byte) (s : State) : Host.Outcome State Fault Refusal :=
  .next ((readModifyWrite shiftRight (.mem (.zpX z)) s).advance 2)

/-- LSR ABS (R221, R126). -/
def execLsrAbs (a : Addr) (s : State) : Host.Outcome State Fault Refusal :=
  .next ((readModifyWrite shiftRight (.mem (.abs a)) s).advance 3)

/-- LSR ABS,X (R221, R127). -/
def execLsrAbsX (a : Addr) (s : State) : Host.Outcome State Fault Refusal :=
  .next ((readModifyWrite shiftRight (.mem (.absX a)) s).advance 3)

/-- ROL A (R222, R122). -/
def execRolA (s : State) : Host.Outcome State Fault Refusal :=
  .next ((readModifyWrite rotateLeft .acc s).advance 1)

/-- ROL ZP (R222, R123). -/
def execRolZp (z : Byte) (s : State) : Host.Outcome State Fault Refusal :=
  .next ((readModifyWrite rotateLeft (.mem (.zp z)) s).advance 2)

/-- ROL ZP,X (R222, R124). -/
def execRolZpX (z : Byte) (s : State) : Host.Outcome State Fault Refusal :=
  .next ((readModifyWrite rotateLeft (.mem (.zpX z)) s).advance 2)

/-- ROL ABS (R222, R126). -/
def execRolAbs (a : Addr) (s : State) : Host.Outcome State Fault Refusal :=
  .next ((readModifyWrite rotateLeft (.mem (.abs a)) s).advance 3)

/-- ROL ABS,X (R222, R127). -/
def execRolAbsX (a : Addr) (s : State) : Host.Outcome State Fault Refusal :=
  .next ((readModifyWrite rotateLeft (.mem (.absX a)) s).advance 3)

/-- ROR A (R223, R122). -/
def execRorA (s : State) : Host.Outcome State Fault Refusal :=
  .next ((readModifyWrite rotateRight .acc s).advance 1)

/-- ROR ZP (R223, R123). -/
def execRorZp (z : Byte) (s : State) : Host.Outcome State Fault Refusal :=
  .next ((readModifyWrite rotateRight (.mem (.zp z)) s).advance 2)

/-- ROR ZP,X (R223, R124). -/
def execRorZpX (z : Byte) (s : State) : Host.Outcome State Fault Refusal :=
  .next ((readModifyWrite rotateRight (.mem (.zpX z)) s).advance 2)

/-- ROR ABS (R223, R126). -/
def execRorAbs (a : Addr) (s : State) : Host.Outcome State Fault Refusal :=
  .next ((readModifyWrite rotateRight (.mem (.abs a)) s).advance 3)

/-- ROR ABS,X (R223, R127). -/
def execRorAbsX (a : Addr) (s : State) : Host.Outcome State Fault Refusal :=
  .next ((readModifyWrite rotateRight (.mem (.absX a)) s).advance 3)

/-- RRF ZP (R224, R123). -/
def execRrfZp (z : Byte) (s : State) : Host.Outcome State Fault Refusal :=
  .next ((readModifyWrite rotateNibbles (.mem (.zp z)) s).advance 2)

/-- CLB BIT,A (R225, R137). -/
def execClbA (b : BitNo) (s : State) : Host.Outcome State Fault Refusal :=
  .next ((readModifyWrite (clearBit b) .acc s).advance 1)

/-- CLB BIT,ZP (R225, R135). -/
def execClbZp (b : BitNo) (z : Byte) (s : State) : Host.Outcome State Fault Refusal :=
  .next ((readModifyWrite (clearBit b) (.mem (.zp z)) s).advance 2)

/-- SEB BIT,A (R226, R137). -/
def execSebA (b : BitNo) (s : State) : Host.Outcome State Fault Refusal :=
  .next ((readModifyWrite (setBit b) .acc s).advance 1)

/-- SEB BIT,ZP (R226, R135). -/
def execSebZp (b : BitNo) (z : Byte) (s : State) : Host.Outcome State Fault Refusal :=
  .next ((readModifyWrite (setBit b) (.mem (.zp z)) s).advance 2)

end Sys2Proof.Machine
end

