-- ==== Sys2Proof/Machine/Boundary.lean ====
section
/-! DEFINITION. What happens around an instruction: the environment's input, the stopped states (R304), the acceptance
of interrupts at the boundary (R313), the fetch (R80, R90), and the one-instruction hazard windows (R353 to R356). The
step function is `stepOnce`. -/

namespace Sys2Proof.Machine

/-! ### The environment -/

/-- A device sets the request bit of source `k` (R311); the bit is then 1, whatever software wrote to it last. -/
def State.deviceRequest (s : State) (k : Nat) : State :=
  match s.cfg.sources[k]? with
  | some src =>
    (s.setLatch src.request true).setWindow { s.window with fresh := s.window.fresh.filter (fun j => j != k) }
  | none => s

/-- The requests that the environment makes at the boundary. -/
def State.applyInput (s : State) (e : EnvInput) : State := e.requests.foldl State.deviceRequest s

/-- The environment's next input; quiet after the end of the script. -/
def State.input (s : State) : EnvInput := s.script.head?.getD .quiet

/-- The script without its first entry. -/
def State.dropInput (s : State) : State := s.setScript s.script.tail

/-! ### The stopped states -/

/-- The wake events of the present run state (P20); none while running. -/
def State.wakeEvents (s : State) : WakeEvents :=
  match s.run with
  | .running => ⟨[], false⟩
  | .stoppedStp => s.cfg.wakeStp
  | .stoppedWit => s.cfg.wakeWit

/-- A wake event of R304 occurs: an event that is no request, a request of a waking source, or a waking source whose
interrupt is acceptable. -/
def State.wakes (s : State) (e : EnvInput) : Bool :=
  (e.wake && s.wakeEvents.external) ||
    s.wakeEvents.sources.any (fun k =>
      e.requests.contains k ||
        (match s.cfg.sources[k]? with
        | some src => s.acceptable k src
        | none => false))

/-- The CPU executes nothing in this step (R43, R304). -/
def State.staysStopped (s : State) (e : EnvInput) : Bool := s.run != .running && !s.wakes e

/-! ### Fetch -/

/-- The fault of an opcode that has no instruction (R101). -/
def faultOf : Reject → Fault
  | .unused opcode => .unusedOpcode opcode
  | .unsupported opcode => .unsupportedOpcode opcode

/-- The instruction at PC: bytes at ascending addresses modulo 2^16, read like data when it executes (R29, R70, R80). -/
def State.fetch (s : State) : Except Reject Instr :=
  decode s.cfg.part (s.read .opcode s.pc) (s.read .operand1 (s.pc + 1#16)) (s.read .operand2 (s.pc + 2#16))

/-! ### Hazard windows -/

/-- The instruction is executed immediately after a PLP, is not NOP, and the part needs the NOP (R353). -/
def State.plpHazard (s : State) (i : Instr) : Bool :=
  s.window.afterPlp && s.cfg.part.plpNeedsNop && i.mnemonic != .nop

/-- The seven flags as that instruction sees them: free values (R353). -/
def State.unsettledPS (s : State) : PS where
  n := Config.freeBit s.tick .plpN
  v := Config.freeBit s.tick .plpV
  t := Config.freeBit s.tick .plpT
  d := Config.freeBit s.tick .plpD
  i := Config.freeBit s.tick .plpI
  z := Config.freeBit s.tick .plpZ
  c := Config.freeBit s.tick .plpC

/-- The state that the instruction is executed on. -/
def State.prepare (s : State) (i : Instr) : State := if s.plpHazard i then s.setPs s.unsettledPS else s

end Sys2Proof.Machine

namespace Sys2Proof

/-- The instruction is ADC or SBC. -/
def Mnemonic.addsOrSubtracts (m : Mnemonic) : Bool := m == .adc || m == .sbc

/-- The instruction is one that must not follow a decimal ADC or SBC directly: SEC, CLC or CLD (R356). -/
def Mnemonic.writesCarryOrDecimal (m : Mnemonic) : Bool := m == .sec || m == .clc || m == .cld

end Sys2Proof

namespace Sys2Proof.Machine

/-- The flags after the instruction: where the PLP window was open, the flags it does not write are those that PLP
loaded (R353); where the decimal window was open and the instruction is SEC, CLC or CLD, C and D are free (R356). -/
def State.settledPS (s : State) (i : Instr) (after : PS) : PS :=
  let p := if s.plpHazard i then PS.merge i.mnemonic.flagsWritten after s.ps else after
  if s.window.afterDecimal && i.mnemonic.writesCarryOrDecimal then
    { p with c := Config.freeBit s.tick .hazardC, d := Config.freeBit s.tick .hazardD }
  else p

/-- The numbers, from `k`, of the sources that `f` holds of. -/
def sourcesWhere (f : IrqSource → Bool) : Nat → List IrqSource → List Nat
  | _, [] => []
  | k, src :: rest => if f src then k :: sourcesWhere f (k + 1) rest else sourcesWhere f (k + 1) rest

/-- The sources whose request bit differs between the states before and after an instruction (R354). -/
def requestsChanged (s t : State) : List Nat :=
  sourcesWhere (fun src => s.latch src.request != t.latch src.request) 0 s.cfg.sources

/-- The sources whose request bit one instruction cleared while it set the enable bit, with I = 0 (R355). -/
def requestsForced (s t : State) : List Nat :=
  sourcesWhere (fun src => s.latch src.request && !t.latch src.request && !s.latch src.enable && t.latch src.enable &&
    !t.ps.i) 0 s.cfg.sources

/-- The windows after an instruction `i` that led from `s` to `t`; a forced interrupt that was postponed stays. -/
def windowAfter (postponed : Bool) (i : Instr) (s t : State) : Window where
  afterPlp := i.mnemonic == .plp
  afterDecimal := i.mnemonic.addsOrSubtracts && (s.prepare i).ps.d
  fresh := requestsChanged s t
  forced := (if postponed then s.window.forced else []) ++ requestsForced s t

/-- The windows after the entry of source `k`. The PLP window closes (D26 allows an interrupt there); the windows of
R354 and R356 stay open for the handler's first instruction, which is the next one executed, but for a request bit that
the acceptance itself cleared; a forced interrupt is one of the boundary just passed (log entry 16). DESIGN CHOICE
(log entry 16): an entry between a decimal ADC or SBC and a handler that begins with SEC, CLC or CLD has stacked the C
that the ADC or SBC gave, although R356 leaves that C open when SEC, CLC or CLD is the next instruction executed; the
spec says nothing of an interrupt in this window. -/
def windowAfterEntry (s : State) (k : Nat) : Window where
  afterPlp := false
  afterDecimal := s.window.afterDecimal
  fresh :=
    match s.cfg.irqAck with
    | .clear => s.window.fresh.filter (fun j => j != k)
    | .leave => s.window.fresh
  forced := []

/-- The next step has the next number. -/
def State.tickOn (s : State) : State := s.setTick (s.tick + 1)

/-- The state after the instruction `i`, which the step executed from `s` and which led to `t`. -/
def State.settle (s : State) (postponed : Bool) (i : Instr) (t : State) : State :=
  let t1 := t.setPs (s.settledPS i t.ps)
  (t1.setWindow (windowAfter postponed i s t1)).tickOn

/-! ### One step -/

/-- Fetch, decode and execute one instruction. -/
def State.runInstruction (s : State) (postponed : Bool) : Host.Outcome State Fault Refusal :=
  match s.fetch with
  | .error r => .fault (faultOf r)
  | .ok i =>
    match exec i (s.prepare i) with
    | .next t => .next (s.settle postponed i t)
    | .fault f => .fault f
    | .refused r => .refused r

/-- A boundary of a running CPU: interrupt entry in place of the next fetch, or one instruction (R313). The entry stacks
the flags as they stand, also where the window of R353 or R356 is open (log entry 16). -/
def State.runBoundary (s : State) (postponed : Bool) : Host.Outcome State Fault Refusal :=
  if postponed then s.runInstruction true
  else match s.nextInterrupt with
    | some (k, src) => .next ((s.enterInterrupt src).setWindow (windowAfterEntry s k)).tickOn
    | none => s.runInstruction false

/-- One step (R5): reset, or a step of a stopped CPU, or interrupt entry, or one instruction. -/
def stepOnce (s : State) : Host.Outcome State Fault Refusal :=
  let e := s.input
  let s0 := s.dropInput
  if e.reset then .next s0.resetEvent.tickOn
  else
    let s1 := s0.applyInput e
    if s1.staysStopped e then .next s1.tickOn
    else (s1.setRun .running).runBoundary e.postpone

end Sys2Proof.Machine
end

