-- ==== Sys2Proof/Machine/Step.lean ====
section
/-! DEFINITION. The step function, and an instruction placed where it is fetched next. -/

namespace Sys2Proof.Machine

/-- One step of the machine (R5). -/
def step (s : State) : Host.Outcome State Fault Refusal := stepOnce s

/-- `s` with the instruction of the opcode-table word `w` at PC, on a family member that has it (`s`'s own where that
does; log entry 4), running, with a quiet environment, so that the next step fetches and runs it. -/
def State.withFetchWord (s : State) (nbits w : Nat) : State :=
  let part := if fitsOn s.cfg.part nbits w then s.cfg.part else partForWord nbits w
  let m0 := s.mem.set (locate s.cfg s.pc).toNat (byteOfWord w 0)
  let m1 := m0.set (locate s.cfg (s.pc + 1#16)).toNat (byteOfWord w 1)
  let m2 := m1.set (locate s.cfg (s.pc + 2#16)).toNat (byteOfWord w 2)
  (((s.setMem m2).setCfg { s.cfg with part := part }).setRun .running).setScript []

end Sys2Proof.Machine
end

