-- ==== Sys2Proof/Machine/Timing.lean ====
section
/-! DEFINITION. The cycle counts, R361 and R362. No rule depends on them and no instruction can read them (R363), so
State holds no count and the step function does not use this file (log entry 19). -/

namespace Sys2Proof

open Machine

/-- The column "n" of R361: T = 0, branch not taken. -/
def Instr.baseCycles (i : Instr) : Nat :=
  match i.mnemonic with
  | .lda | .adc | .sbc | .and | .ora | .eor | .cmp =>
    match i.mode with
    | .imm => 2
    | .zp => 3
    | .abs | .zpX => 4
    | .absX | .absY => 5
    | _ => 6
  | .ldx =>
    match i.mode with
    | .absY => 5
    | .imm => 2
    | .zp => 3
    | _ => 4
  | .ldy =>
    match i.mode with
    | .absX => 5
    | .imm => 2
    | .zp => 3
    | _ => 4
  | .ldm | .pla | .plp | .bra => 4
  | .sta =>
    match i.mode with
    | .zp => 4
    | .abs | .zpX => 5
    | .absX | .absY => 6
    | _ => 7
  | .stx =>
    match i.mode with
    | .zp => 4
    | _ => 5
  | .sty =>
    match i.mode with
    | .zp => 4
    | _ => 5
  | .tax | .tay | .tsx | .txa | .txs | .tya | .inx | .iny | .dex | .dey | .clc | .sec
  | .cld | .sed | .cli | .sei | .clt | .set | .clv | .bcc | .bcs | .beq | .bne | .bmi
  | .bpl | .bvc | .bvs | .nop | .stp | .wit | .fst | .slw => 2
  | .pha | .php | .tst => 3
  | .cpx | .cpy =>
    match i.mode with
    | .abs => 4
    | .imm => 2
    | _ => 3
  | .bit =>
    match i.mode with
    | .abs => 4
    | _ => 3
  | .com => 5
  | .inc | .dec | .asl | .lsr | .rol | .ror =>
    match i.mode with
    | .absX => 7
    | .acc => 2
    | .zp => 5
    | _ => 6
  | .mul => 15
  | .div => 16
  | .rrf => 8
  | .clb | .seb =>
    match i.mode with
    | .bitA => 2
    | _ => 5
  | .jmp =>
    match i.mode with
    | .abs => 3
    | .ind => 5
    | _ => 4
  | .jsr =>
    match i.mode with
    | .abs => 6
    | .sp => 5
    | _ => 7
  | .rts | .rti => 6
  | .bbc | .bbs =>
    match i.mode with
    | .bitARel => 4
    | _ => 5
  | .brk => 7

/-- The condition of a conditional branch holds (R264 to R271, R273, R274); BRA carries no Note 4. -/
def Instr.branchTaken (i : Instr) (s : State) : Bool :=
  match i.mnemonic with
  | .bcc => !s.ps.c
  | .bcs => s.ps.c
  | .beq => s.ps.z
  | .bne => !s.ps.z
  | .bmi => s.ps.n
  | .bpl => !s.ps.n
  | .bvc => !s.ps.v
  | .bvs => s.ps.v
  | .bbc => match i.bitOperand? with
    | some (b, o) => !(o.value s).getLsbD b.toNat
    | none => false
  | .bbs => match i.bitOperand? with
    | some (b, o) => (o.value s).getLsbD b.toNat
    | none => false
  | _ => false

/-- The machine cycles of an instruction executed at `s`: Notes 1 to 4 of R362. -/
def Instr.cycles (i : Instr) (s : State) : Nat :=
  i.baseCycles +
    (match i.mnemonic with
    | .adc | .sbc | .and | .ora | .eor => if s.ps.t then 3 else 0
    | .lda => if s.ps.t then 2 else 0
    | .cmp => if s.ps.t then 1 else 0
    | _ => if i.branchTaken s then 2 else 0)

end Sys2Proof
end

