-- ==== Sys2Proof/Safety.lean ====
section
/-! DEFINITION. The terms that statements about the machine use: what an instruction leaves unchanged, which bytes it
stores, and what a run without a stop is. -/

namespace Sys2Proof.Machine

/-- Nothing outside the registers, PS, PC and memory changed: the run state, the X_OUTF connection, the hazard windows
and the model's own fields. -/
def Steady (s t : State) : Prop :=
  t.run = s.run ∧ t.xoutf = s.xoutf ∧ t.window = s.window ∧ t.tick = s.tick ∧ t.script = s.script ∧ t.cfg = s.cfg

/-- A, X, Y and S are unchanged. -/
def SameRegs (s t : State) : Prop := t.a = s.a ∧ t.x = s.x ∧ t.y = s.y ∧ t.sp = s.sp

/-- Every byte of memory is unchanged. -/
def SameMemory (s t : State) : Prop := ∀ b : Addr, t.byteAt b = s.byteAt b

/-- The byte at `b` after `v` is stored at `a`, where `old` is the byte before: at the place that `a` reaches, what the
memory map makes of the write (`v` in RAM; R69, P17), and `old` at every other. -/
def storedByte (s : State) (a : Addr) (v : Byte) (b : Addr) (old : Byte) : Byte :=
  if b = locate s.cfg a then s.writtenByte a old v else old

/-- The one byte stored is `v` at `a`; every other address reads as before. -/
def StoresByte (s t : State) (a : Addr) (v : Byte) : Prop :=
  ∀ b : Addr, t.byteAt b = storedByte s a v b (s.byteAt b)

/-- Two bytes are stored, first `v1` at `a1`, then `v2` at `a2`; every other address reads as before. -/
def StoresTwo (s t : State) (a1 : Addr) (v1 : Byte) (a2 : Addr) (v2 : Byte) : Prop :=
  ∀ b : Addr, t.byteAt b = storedByte s a2 v2 b (storedByte s a1 v1 b (s.byteAt b))

/-- Three bytes are stored, in that order; every other address reads as before. -/
def StoresThree (s t : State) (a1 : Addr) (v1 : Byte) (a2 : Addr) (v2 : Byte) (a3 : Addr) (v3 : Byte) : Prop :=
  ∀ b : Addr, t.byteAt b = storedByte s a3 v3 b (storedByte s a2 v2 b (storedByte s a1 v1 b (s.byteAt b)))

/-- The result of a T-sensitive instruction (R201): in A when T = 0, in the zero-page byte X addresses when T = 1. -/
def AccResult (s t : State) (r : Byte) : Prop :=
  (s.ps.t = false → t.a = r ∧ SameMemory s t) ∧
  (s.ps.t = true → t.a = s.a ∧ StoresByte s t (zpAddr s.x) r)

/-- The result of a read-modify-write instruction (R73, R122): in A or at `EA`. -/
def OperandResult (o : Operand) (s t : State) (r : Byte) : Prop :=
  match o with
  | .imm _ => False
  | .acc => t.a = r ∧ SameMemory s t
  | .mem m => t.a = s.a ∧ StoresByte s t (m.ea s) r

/-- `acc` of R201, in its own words: A, or the zero-page byte X addresses when T = 1. -/
def accOperand (s : State) : Byte := if s.ps.t = true then s.read .dest (zpAddr s.x) else s.a

/-- PS with N and Z of a byte: N when it is 128 or more, Z when it is 0 (R31, R37). -/
def withNZ (p : PS) (r : Byte) : PS := { p with n := decide (128 ≤ r.toNat), z := decide (r = 0x00#8) }

/-- PC moved past the instruction (R29). -/
def PastInstr (i : Instr) (s t : State) : Prop := t.pc = s.pc + BitVec.ofNat 16 i.length

/-- The address of the `k`-th byte that is pushed from the state on, counted from 0 (R24, R25). -/
def State.stackSlot (s : State) (k : Nat) : Addr := addrOf s.stackPageHi (s.sp - BitVec.ofNat 8 k)

/-- The next `n` bytes pushed go to RAM, the byte of the Stack Page Selection Bit (where the part has it) is not among
them, and no request bit is unsettled, so that what is pushed is what is pulled. -/
def PlainStack (n : Nat) (s : State) : Prop :=
  s.window.fresh = [] ∧ ∀ k : Nat, k < n →
    mapAt s.cfg (s.stackSlot k) = .ram ∧ (s.cfg.hasSps = true → s.stackSlot k ≠ (spsLoc s.cfg).addr)

/-- Accepting the interrupt leaves the three bytes that its entry pushes, and the stack page, as they are: P19 leaves
the request bit, or the bit stands in none of the three bytes and is not the Stack Page Selection Bit. -/
def AcknowledgeSparesTheFrame (s : State) (src : IrqSource) : Prop :=
  s.cfg.irqAck = .leave ∨
    (∀ k : Nat, k < 3 → s.stackSlot k ≠ src.request.addr) ∧ (s.cfg.hasSps = true → src.request ≠ spsLoc s.cfg)

/-- The step of `s` is an ordinary instruction step of `i`: the CPU runs, the environment is quiet at this boundary, no
interrupt is acceptable, and the bytes at PC decode to `i`. -/
def RunsInstr (s : State) (i : Instr) : Prop :=
  s.run = .running ∧ s.input = .quiet ∧ s.nextInterrupt = none ∧ s.fetch = .ok i

/-- The state at the boundary of the step: the environment's input is taken from the script and its requests are made. -/
def State.atBoundary (s : State) : State := s.dropInput.applyInput s.input

/-- A wake event of R304 occurs at the boundary: an external event that P20 admits, or a waking source of P20 that
makes its request there or is acceptable. -/
def WakeEvent (s : State) : Prop :=
  (s.input.wake = true ∧ s.wakeEvents.external = true) ∨
    ∃ k ∈ s.wakeEvents.sources, k ∈ s.input.requests ∨
      ∃ src, s.cfg.sources[k]? = some src ∧ s.atBoundary.acceptable k src = true

/-- A state that the machine steps on from. -/
def Continues (s : State) : Prop := ∃ t, step s = .next t

/-- A run of `k` steps that meets no fault and no refusal. -/
def SafeRun : Nat → State → Prop
  | 0, _ => True
  | k + 1, s => ∃ t, step s = .next t ∧ SafeRun k t

end Sys2Proof.Machine
end

