-- ==== Sys2Proof/Certificates/Slice0/Obligations.lean ====
section
/-! DEFINITION. The statements about the machine, for the provers. Each docstring says what the statement says; where a
clause rests on a choice of the model, it names the log entry. -/

open Sys2Proof Sys2Proof.Machine

/-- Decode and encode agree on every instruction of every family member. For every family member p and every instruction
i that p has, decoding the bytes of encode i, followed by any bytes, gives i back, with every operand at every
value. -/
def Obligations.DecodeOfEncodeIsTheInstruction : Prop :=
  ∀ (p : Part) (i : Instr) (x y z : Byte), WellFormed p i →
    decode p ((encode i).getD 0 x) ((encode i).getD 1 y) ((encode i).getD 2 z) = .ok i

/-- Every decoded instruction encodes to the bytes it was read from. If the decoder of p reads the instruction i from
three bytes, then p has i and encode i is the first i.length of those bytes: every word has one meaning and no bit
of it is dropped. -/
def Obligations.EncodeOfDecodeIsTheBytes : Prop :=
  ∀ (p : Part) (b0 b1 b2 : Byte) (i : Instr), decode p b0 b1 b2 = .ok i →
    WellFormed p i ∧ encode i = [b0, b1, b2].take i.length

/-- The 25 unused opcodes, and a device-dependent opcode on a part without it, fault by name. The decoder rejects
exactly the 25 unused bytes as unused, and exactly 42 without STP, 62 without MUL, C2 without WIT and SLW and E2
without DIV and FST as unsupported; a step at such a byte is that fault, so it is neither a hint nor a NOP. That the
model faults there is the decision D17 of the spec (log entry 18), not a statement of the source. -/
def Obligations.OpcodesWithoutInstructionFault : Prop :=
  (∀ (p : Part) (op b1 b2 : Byte), decode p op b1 b2 = .error (.unused op) ↔
    op ∈ [0x04#8, 0x0C#8, 0x14#8, 0x1C#8, 0x34#8, 0x52#8, 0x54#8, 0x5A#8, 0x5C#8, 0x72#8, 0x74#8, 0x7A#8, 0x7C#8,
      0x89#8, 0x92#8, 0x9C#8, 0x9E#8, 0xD2#8, 0xD4#8, 0xDA#8, 0xDC#8, 0xF2#8, 0xF4#8, 0xFA#8, 0xFC#8]) ∧
  (∀ (p : Part) (op b1 b2 : Byte), decode p op b1 b2 = .error (.unsupported op) ↔
    (op = 0x42#8 ∧ p.hasStp = false) ∨ (op = 0x62#8 ∧ p.hasMulDiv = false) ∨
      (op = 0xC2#8 ∧ p.hasWit = false ∧ p.hasFstSlw = false) ∨
      (op = 0xE2#8 ∧ p.hasMulDiv = false ∧ p.hasFstSlw = false)) ∧
  (∀ (s : State) (r : Reject), s.run = .running → s.input = .quiet → s.nextInterrupt = none → s.fetch = .error r →
    (r = .unused (s.read .opcode s.pc) ∧ step s = .fault (.unusedOpcode (s.read .opcode s.pc))) ∨
    (r = .unsupported (s.read .opcode s.pc) ∧ step s = .fault (.unsupportedOpcode (s.read .opcode s.pc))))

/-- What 42, 62, C2 and E2 are depends on the family member, one instruction on each. On every family member 42 is STP,
62 is MUL, C2 is WIT or SLW and E2 is DIV or FST exactly where the part has that instruction, with the lengths 1, 2,
1, 1, 2 and 1; WIT and SLW exclude each other and one of them is always there; MUL/DIV and FST/SLW exclude each
other. -/
def Obligations.DeviceDependentOpcodesFollowThePart : Prop :=
  ∀ (p : Part) (b1 b2 : Byte),
    decode p 0x42#8 b1 b2 = (if p.hasStp then .ok .stp else .error (.unsupported 0x42#8)) ∧
    decode p 0x62#8 b1 b2 = (if p.hasMulDiv then .ok (.mulZpX b1) else .error (.unsupported 0x62#8)) ∧
    (p.hasWit = true → decode p 0xC2#8 b1 b2 = .ok .wit) ∧
    (p.hasFstSlw = true → decode p 0xC2#8 b1 b2 = .ok .slw) ∧
    (p.hasMulDiv = true → decode p 0xE2#8 b1 b2 = .ok (.divZpX b1)) ∧
    (p.hasFstSlw = true → decode p 0xE2#8 b1 b2 = .ok .fst) ∧
    (p.hasMulDiv = false → p.hasFstSlw = false → decode p 0xE2#8 b1 b2 = .error (.unsupported 0xE2#8)) ∧
    (p.hasWit = !p.hasFstSlw) ∧ (p.hasMulDiv && p.hasFstSlw) = false ∧
    Instr.length .stp = 1 ∧ (Instr.mulZpX b1).length = 2 ∧ Instr.length .wit = 1 ∧ Instr.length .slw = 1 ∧
    (Instr.divZpX b1).length = 2 ∧ Instr.length .fst = 1

/-- The source's encoding examples decode to the instructions they stand for. The machine code of the source's examples
E1 to E19 decodes, on Series 38000, to the instruction printed beside it. -/
def Obligations.SourceExampleBytesDecode : Prop :=
  decode .series38000 0x69#8 0xA5#8 0x00#8 = .ok (.adcImm 0xA5#8) ∧
  decode .series38000 0x2A#8 0x00#8 0x00#8 = .ok .rolA ∧
  decode .series38000 0x65#8 0x02#8 0x00#8 = .ok (.adcZp 0x02#8) ∧
  decode .series38000 0x75#8 0x1E#8 0x00#8 = .ok (.adcZpX 0x1E#8) ∧
  decode .series38000 0xB6#8 0x02#8 0x00#8 = .ok (.ldxZpY 0x02#8) ∧
  decode .series38000 0x6D#8 0x12#8 0xAD#8 = .ok (.adcAbs 0xAD12#16) ∧
  decode .series38000 0x7D#8 0x12#8 0xAD#8 = .ok (.adcAbsX 0xAD12#16) ∧
  decode .series38000 0x79#8 0x12#8 0xAD#8 = .ok (.adcAbsY 0xAD12#16) ∧
  decode .series38000 0x18#8 0x00#8 0x00#8 = .ok .clc ∧
  decode .series38000 0x90#8 0xF2#8 0x00#8 = .ok (.bcc 0xF2#8) ∧
  decode .series38000 0x61#8 0x1E#8 0x00#8 = .ok (.adcIndX 0x1E#8) ∧
  decode .series38000 0x71#8 0x1E#8 0x00#8 = .ok (.adcIndY 0x1E#8) ∧
  decode .series38000 0x6C#8 0x00#8 0x14#8 = .ok (.jmpInd 0x1400#16) ∧
  decode .series38000 0xB2#8 0x05#8 0x00#8 = .ok (.jmpZpInd 0x05#8) ∧
  decode .series38000 0xBF#8 0x04#8 0x00#8 = .ok (.clbZp 5#3 0x04#8) ∧
  decode .series38000 0xB7#8 0x04#8 0xF1#8 = .ok (.bbcZp 5#3 0x04#8 0xF1#8) ∧
  decode .series38000 0xBB#8 0x00#8 0x00#8 = .ok (.clbA 5#3) ∧
  decode .series38000 0xB3#8 0xF2#8 0x00#8 = .ok (.bbcA 5#3 0xF2#8) ∧
  decode .series38000 0x22#8 0xE0#8 0x00#8 = .ok (.jsrSp 0xE0#8)

/-- The opcodes whose low bits are 11 are the bit instructions, with the bit number in bits 7..5. The opcode of each bit
instruction is its base plus 20 (hex) times the bit number; every opcode whose bits 1..0 are 11 decodes to a bit
instruction whose bit number is its bits 7..5, in the clear sense exactly when bit 4 is 1, modifying exactly when
bit 3 is 1, on memory exactly when bit 2 is 1; no other opcode decodes to one. -/
def Obligations.BitInstructionOpcodesHoldTheBitNumber : Prop :=
  (∀ (b : BitNo) (z r : Byte),
    encode (.bbsA b r) = [BitVec.ofNat 8 (0x03 + 0x20 * b.toNat), r] ∧
    encode (.bbcA b r) = [BitVec.ofNat 8 (0x13 + 0x20 * b.toNat), r] ∧
    encode (.bbsZp b z r) = [BitVec.ofNat 8 (0x07 + 0x20 * b.toNat), z, r] ∧
    encode (.bbcZp b z r) = [BitVec.ofNat 8 (0x17 + 0x20 * b.toNat), z, r] ∧
    encode (.sebA b) = [BitVec.ofNat 8 (0x0B + 0x20 * b.toNat)] ∧
    encode (.clbA b) = [BitVec.ofNat 8 (0x1B + 0x20 * b.toNat)] ∧
    encode (.sebZp b z) = [BitVec.ofNat 8 (0x0F + 0x20 * b.toNat), z] ∧
    encode (.clbZp b z) = [BitVec.ofNat 8 (0x1F + 0x20 * b.toNat), z]) ∧
  (∀ (p : Part) (op b1 b2 : Byte), op.toNat % 4 = 3 → ∃ i b o, decode p op b1 b2 = .ok i ∧
    i.bitOperand? = some (b, o) ∧ b.toNat = op.toNat / 32 ∧
    (i.mnemonic = .bbs ↔ op.getLsbD 4 = false ∧ op.getLsbD 3 = false) ∧
    (i.mnemonic = .bbc ↔ op.getLsbD 4 = true ∧ op.getLsbD 3 = false) ∧
    (i.mnemonic = .seb ↔ op.getLsbD 4 = false ∧ op.getLsbD 3 = true) ∧
    (i.mnemonic = .clb ↔ op.getLsbD 4 = true ∧ op.getLsbD 3 = true) ∧
    (o = .acc ↔ op.getLsbD 2 = false) ∧ (o = .mem (.zp b1) ↔ op.getLsbD 2 = true)) ∧
  (∀ (p : Part) (op b1 b2 : Byte) (i : Instr), op.toNat % 4 ≠ 3 → decode p op b1 b2 = .ok i →
    i.bitOperand? = none)

/-- A write changes one byte, as the memory map says, and RAM reads back what was written. After a write of v at a, the
byte at the place that a reaches is what the map's rule makes of v, every other byte and every register is
unchanged. In RAM the place is a and the byte becomes v, and a read of it with no unsettled request bit gives v.
Where the rule is to ignore the write nothing changes; where it is to store, the byte becomes v; a mirror of a RAM
address is written and read like it. Which rules the map may give ROM, I/O and unmapped addresses, mirrors among
them, is log entry 21 (the spec leaves them to P17; ignore for ROM and unmapped is the default of U28). -/
def Obligations.MemoryReadsWhatWasWritten : Prop :=
  ∀ (s : State) (a : Addr) (v : Byte),
    StoresByte s (s.write a v) a v ∧ SameRegs s (s.write a v) ∧ (s.write a v).pc = s.pc ∧ (s.write a v).ps = s.ps ∧
    Steady s (s.write a v) ∧
    (mapAt s.cfg a = .ram →
      (∀ b : Addr, (s.write a v).byteAt b = if b = a then v else s.byteAt b) ∧
      (s.window.fresh = [] → ∀ acc : Access, (s.write a v).read acc a = v)) ∧
    (writeRuleOf (kindAt s.cfg a) = .ignore → s.write a v = s) ∧
    (writeRuleOf (kindAt s.cfg a) = .store → (s.write a v).byteAt (locate s.cfg a) = v) ∧
    (∀ base mask : Addr, mapAt s.cfg a = .unmapped (.mirror base mask) → mapAt s.cfg (base + (a &&& mask)) = .ram →
      s.write a v = s.write (base + (a &&& mask)) v ∧ ∀ acc : Access, s.read acc a = s.read acc (base + (a &&& mask)))

/-- A push writes at the page and S, then decrements S; a pull increments S, then reads there. The stack address is S
under the page that the Stack Page Selection Bit (or the fixed page) gives; a push writes the byte there, decrements
S modulo 256 inside the page and changes nothing else; a pull reads at S + 1 modulo 256 in the same page and changes
nothing but S; on a plain stack a push and a pull return the byte and S. That S wraps inside its page is the
decision D5 of the spec (log entry 32). -/
def Obligations.PushAndPullMoveTheStackPointer : Prop :=
  (∀ (s : State) (v : Byte),
    s.stackAddr.toNat = 256 * (if s.cfg.hasSps = true then (if s.latch (spsLoc s.cfg) = true then 1 else 0)
      else s.cfg.stackPageFixedHi.toNat) + s.sp.toNat ∧
    StoresByte s (s.push v) s.stackAddr v ∧ (s.push v).sp.toNat = (s.sp.toNat + 255) % 256 ∧
    (s.push v).a = s.a ∧ (s.push v).x = s.x ∧ (s.push v).y = s.y ∧ (s.push v).pc = s.pc ∧ (s.push v).ps = s.ps ∧
    Steady s (s.push v)) ∧
  (∀ (s : State) (acc : Access),
    s.pulled.sp.toNat = (s.sp.toNat + 1) % 256 ∧
    s.pullByte acc = s.read acc (addrOf s.stackPageHi (s.sp + 1#8)) ∧
    s.pulled = s.setSp (s.sp + 1#8)) ∧
  (∀ (s : State) (acc : Access) (v : Byte), PlainStack 1 s →
    (s.push v).pullByte acc = v ∧ (s.push v).pulled.sp = s.sp)

/-- Every effective address, with its wrap-around. Zero-page indexed sums and zero-page pointer bytes wrap modulo 256,
absolute indexed sums and the final sum of IND,Y wrap modulo 2^16, and pointers are low byte first. That absolute
indexed sums wrap modulo 2^16 is the decision D2 of the spec, and that zero-page pointer bytes stay in the zero page
D3; both are choices (log entry 32). -/
def Obligations.EffectiveAddressesWrapAsStated : Prop :=
  ∀ (s : State) (z : Byte) (a : Addr),
    ((MemOperand.zp z).ea s).toNat = z.toNat ∧
    ((MemOperand.zpX z).ea s).toNat = (z.toNat + s.x.toNat) % 256 ∧
    ((MemOperand.zpY z).ea s).toNat = (z.toNat + s.y.toNat) % 256 ∧
    (MemOperand.abs a).ea s = a ∧
    ((MemOperand.absX a).ea s).toNat = (a.toNat + s.x.toNat) % 65536 ∧
    ((MemOperand.absY a).ea s).toNat = (a.toNat + s.y.toNat) % 65536 ∧
    (∀ lo hi : Addr, lo.toNat = (z.toNat + s.x.toNat) % 256 → hi.toNat = (z.toNat + s.x.toNat + 1) % 256 →
      ((MemOperand.indX z).ea s).toNat = 256 * (s.read .pointerHi hi).toNat + (s.read .pointerLo lo).toNat) ∧
    (∀ lo hi : Addr, lo.toNat = z.toNat → hi.toNat = (z.toNat + 1) % 256 →
      ((MemOperand.indY z).ea s).toNat =
        (256 * (s.read .pointerHi hi).toNat + (s.read .pointerLo lo).toNat + s.y.toNat) % 65536)

/-- LDA: the operand to A (T = 0) or to the zero-page byte X addresses (T = 1), with N and Z. Every form of LDA
completes: its operand goes to A when T = 0 and to the zero-page byte addressed by X when T = 1 (A then unchanged),
N and Z are those of the operand, and nothing else but PC changes. -/
def Obligations.LdaLoadsOrMovesTheOperand : Prop :=
  ∀ i : Instr, i.mnemonic = .lda → ∃ o, i.operand? = some o ∧ ∀ s : State, ∃ t, exec i s = .next t ∧
    AccResult s t (o.value s) ∧ t.ps = withNZ s.ps (o.value s) ∧
    t.x = s.x ∧ t.y = s.y ∧ t.sp = s.sp ∧ PastInstr i s t ∧ Steady s t

/-- LDX and LDY: the operand to X or Y, with N and Z. Every form of LDX and LDY completes: its operand goes to X (LDX)
or Y (LDY), N and Z are those of the operand, and nothing else but PC changes, whatever T is. N and Z of LDX and LDY
are in part general knowledge in the spec (log entry 25). -/
def Obligations.LdxAndLdyLoadTheirRegister : Prop :=
  ∀ i : Instr, i.mnemonic = .ldx ∨ i.mnemonic = .ldy → ∃ o, i.operand? = some o ∧ ∀ s : State,
    ∃ t, exec i s = .next t ∧
    t.x = (if i.mnemonic = .ldx then o.value s else s.x) ∧ t.y = (if i.mnemonic = .ldy then o.value s else s.y) ∧
    t.ps = withNZ s.ps (o.value s) ∧ t.a = s.a ∧ t.sp = s.sp ∧ SameMemory s t ∧ PastInstr i s t ∧ Steady s t

/-- STA, STX, STY and LDM: one byte stored, no flag. Every form of STA, STX and STY completes and stores A, X or Y at
its effective address; LDM stores its immediate byte at its zero-page address; no flag, no register and no other
byte changes. That LDM writes no flag is general knowledge in the spec (log entry 25). -/
def Obligations.StoresWriteOneByte : Prop :=
  (∀ i : Instr, i.mnemonic = .sta ∨ i.mnemonic = .stx ∨ i.mnemonic = .sty →
    ∃ m, i.operand? = some (.mem m) ∧ ∀ s : State, ∃ t, exec i s = .next t ∧
      StoresByte s t (m.ea s)
        (if i.mnemonic = .sta then s.a else if i.mnemonic = .stx then s.x else s.y) ∧
      SameRegs s t ∧ t.ps = s.ps ∧ PastInstr i s t ∧ Steady s t) ∧
  (∀ (v z : Byte) (s : State), ∃ t, exec (.ldm v z) s = .next t ∧ StoresByte s t (zpAddr z) v ∧
    SameRegs s t ∧ t.ps = s.ps ∧ PastInstr (.ldm v z) s t ∧ Steady s t)

/-- TAX, TAY, TSX, TXA, TXS and TYA copy one register; all but TXS set N and Z. Each transfer, at the opcode the rule
gives, copies its source to its destination, sets N and Z from the value (TXS no flag), and changes nothing else but
PC, whatever T is. -/
def Obligations.TransfersCopyARegister : Prop :=
  encode .tax = [0xAA#8] ∧ encode .tay = [0xA8#8] ∧ encode .tsx = [0xBA#8] ∧ encode .txa = [0x8A#8] ∧
  encode .txs = [0x9A#8] ∧ encode .tya = [0x98#8] ∧
  ∀ s : State,
    exec .tax s = .next (((s.setX s.a).setPs (withNZ s.ps s.a)).setPc (s.pc + 1#16)) ∧
    exec .tay s = .next (((s.setY s.a).setPs (withNZ s.ps s.a)).setPc (s.pc + 1#16)) ∧
    exec .tsx s = .next (((s.setX s.sp).setPs (withNZ s.ps s.sp)).setPc (s.pc + 1#16)) ∧
    exec .txa s = .next (((s.setA s.x).setPs (withNZ s.ps s.x)).setPc (s.pc + 1#16)) ∧
    exec .txs s = .next ((s.setSp s.x).setPc (s.pc + 1#16)) ∧
    exec .tya s = .next (((s.setA s.y).setPs (withNZ s.ps s.y)).setPc (s.pc + 1#16))

/-- PHA pushes A, PHP pushes PS with bit 4 = 0. PHA and PHP complete: A, or the byte N V T 0 D I Z C, is stored at the
stack address, S is decremented modulo 256, and nothing else but PC changes. Bit 4 = 0 in the byte of PHP is the
decision D27 of the spec (log entry 29), and the wrap of S inside its page D5 (log entry 32). -/
def Obligations.PhaAndPhpPushTheirRegister : Prop :=
  ∀ s : State,
    (∃ t, exec .pha s = .next t ∧ StoresByte s t s.stackAddr s.a ∧ t.sp = s.sp - 1#8 ∧
      t.a = s.a ∧ t.x = s.x ∧ t.y = s.y ∧ t.ps = s.ps ∧ PastInstr .pha s t ∧ Steady s t) ∧
    (∃ t p, exec .php s = .next t ∧ StoresByte s t s.stackAddr p ∧
      p.toNat = 128 * s.ps.n.toNat + 64 * s.ps.v.toNat + 32 * s.ps.t.toNat + 8 * s.ps.d.toNat + 4 * s.ps.i.toNat +
        2 * s.ps.z.toNat + s.ps.c.toNat ∧
      t.sp = s.sp - 1#8 ∧ t.a = s.a ∧ t.x = s.x ∧ t.y = s.y ∧ t.ps = s.ps ∧ PastInstr .php s t ∧ Steady s t)

/-- PLA pulls A with N and Z, PLP pulls seven flags and discards bit 4. PLA and PLP complete: the byte at the page and S
+ 1 goes to A (with N and Z) or to the flags N V T D I Z C, S is incremented modulo 256, and nothing else but PC
changes. That PLP discards bit 4 is the decision D27 of the spec (log entry 29), and the wrap of S inside its page
D5 (log entry 32). -/
def Obligations.PlaAndPlpPullTheirRegister : Prop :=
  ∀ s : State,
    (∃ t v, v = s.read .pull1 (addrOf s.stackPageHi (s.sp + 1#8)) ∧ exec .pla s = .next t ∧ t.a = v ∧
      t.ps = withNZ s.ps v ∧ t.sp = s.sp + 1#8 ∧ t.x = s.x ∧ t.y = s.y ∧ SameMemory s t ∧ PastInstr .pla s t ∧
      Steady s t) ∧
    (∃ t v, v = s.read .pull1 (addrOf s.stackPageHi (s.sp + 1#8)) ∧ exec .plp s = .next t ∧
      t.ps = ⟨v.getLsbD 7, v.getLsbD 6, v.getLsbD 5, v.getLsbD 3, v.getLsbD 2, v.getLsbD 1, v.getLsbD 0⟩ ∧
      t.sp = s.sp + 1#8 ∧ t.a = s.a ∧ t.x = s.x ∧ t.y = s.y ∧ SameMemory s t ∧ PastInstr .plp s t ∧ Steady s t)

/-- ADC with D = 0: the sum with carry modulo 256, its carry and its signed overflow. With D = 0 every form of ADC
completes: the result is acc + M + C modulo 256, in A or (T = 1) in the zero-page byte X addresses; C is the carry
out, V says that the signed sum is outside -128..127, N and Z are those of the result; nothing else but PC changes.
That V is cleared where there is no overflow is the decision D34 of the spec (log entry 36). -/
def Obligations.AdcBinaryAddsWithCarry : Prop :=
  ∀ i : Instr, i.mnemonic = .adc → ∃ o, i.operand? = some o ∧ ∀ s : State, s.ps.d = false →
    ∃ t r, exec i s = .next t ∧
    r = BitVec.ofNat 8 ((accOperand s).toNat + (o.value s).toNat + s.ps.c.toNat) ∧ AccResult s t r ∧
    t.ps = { withNZ s.ps r with
      c := decide (256 ≤ (accOperand s).toNat + (o.value s).toNat + s.ps.c.toNat)
      v := decide ((accOperand s).toInt + (o.value s).toInt + s.ps.c.toNat < -128 ∨
        127 < (accOperand s).toInt + (o.value s).toInt + s.ps.c.toNat) } ∧
    t.x = s.x ∧ t.y = s.y ∧ t.sp = s.sp ∧ PastInstr i s t ∧ Steady s t

/-- SBC with D = 0: the difference less the complement of C, its borrow and its signed overflow. With D = 0 every form
of SBC completes: the result is acc - M - (1 - C) modulo 256, in A or (T = 1) in the zero-page byte X addresses; C
is 1 exactly when no borrow occurred, V says that the signed difference is outside -128..127, N and Z are those of
the result; nothing else but PC changes. That C is the complement of the borrow is the decision D19 of the spec, and
that V is cleared where there is no overflow D34 (log entry 36). -/
def Obligations.SbcBinarySubtractsWithBorrow : Prop :=
  ∀ i : Instr, i.mnemonic = .sbc → ∃ o, i.operand? = some o ∧ ∀ s : State, s.ps.d = false →
    ∃ t r, exec i s = .next t ∧
    r = BitVec.ofNat 8 ((accOperand s).toNat + 256 - (o.value s).toNat - (1 - s.ps.c.toNat)) ∧ AccResult s t r ∧
    t.ps = { withNZ s.ps r with
      c := decide ((o.value s).toNat + (1 - s.ps.c.toNat) ≤ (accOperand s).toNat)
      v := decide ((accOperand s).toInt - (o.value s).toInt - (1 - (s.ps.c.toNat : Int)) < -128 ∨
        127 < (accOperand s).toInt - (o.value s).toInt - (1 - (s.ps.c.toNat : Int))) } ∧
    t.x = s.x ∧ t.y = s.y ∧ t.sp = s.sp ∧ PastInstr i s t ∧ Steady s t

/-- ADC with D = 1: the decimal sum modulo 100 and its decimal carry. With D = 1 every form of ADC completes. For
packed-BCD operands the result is the packed-BCD sum with carry modulo 100 and C its decimal carry; for any other
operand the result and C are free. N, V and Z are free; T, D, I, X, Y, S and every other byte are unchanged, and PC
advances. The decimal sum modulo 100 and its carry, and the free values for operands that are not packed BCD and for
N, V and Z, are the decision D20 of the spec (log entry 26). -/
def Obligations.AdcDecimalAddsDecimalDigits : Prop :=
  ∀ i : Instr, i.mnemonic = .adc → ∃ o, i.operand? = some o ∧ ∀ s : State, s.ps.d = true →
    ∃ t r, exec i s = .next t ∧ AccResult s t r ∧
    (validBcd (accOperand s) = true → validBcd (o.value s) = true →
      validBcd r = true ∧ dec r = (dec (accOperand s) + dec (o.value s) + s.ps.c.toNat) % 100 ∧
      t.ps.c = decide (100 ≤ dec (accOperand s) + dec (o.value s) + s.ps.c.toNat)) ∧
    t.ps.t = s.ps.t ∧ t.ps.d = s.ps.d ∧ t.ps.i = s.ps.i ∧
    t.x = s.x ∧ t.y = s.y ∧ t.sp = s.sp ∧ PastInstr i s t ∧ Steady s t

/-- SBC with D = 1: the decimal difference modulo 100 and its borrow. With D = 1 every form of SBC completes. For
packed-BCD operands the result is the packed-BCD difference less the complement of C, modulo 100, and C is 1 exactly
when no borrow occurred; for any other operand the result and C are free. N, V and Z are free; T, D, I, X, Y, S and
every other byte are unchanged, and PC advances. The decimal difference modulo 100 and its borrow, and the free
values for operands that are not packed BCD and for N, V and Z, are the decision D20 of the spec (log entry 26). -/
def Obligations.SbcDecimalSubtractsDecimalDigits : Prop :=
  ∀ i : Instr, i.mnemonic = .sbc → ∃ o, i.operand? = some o ∧ ∀ s : State, s.ps.d = true →
    ∃ t r, exec i s = .next t ∧ AccResult s t r ∧
    (validBcd (accOperand s) = true → validBcd (o.value s) = true →
      validBcd r = true ∧ dec r = (dec (accOperand s) + 100 - dec (o.value s) - (1 - s.ps.c.toNat)) % 100 ∧
      t.ps.c = decide (dec (o.value s) + (1 - s.ps.c.toNat) ≤ dec (accOperand s))) ∧
    t.ps.t = s.ps.t ∧ t.ps.d = s.ps.d ∧ t.ps.i = s.ps.i ∧
    t.x = s.x ∧ t.y = s.y ∧ t.sp = s.sp ∧ PastInstr i s t ∧ Steady s t

/-- AND, ORA and EOR: the bitwise result with N and Z. Every form of AND, ORA and EOR completes: bit by bit the result
is the and, or, exclusive or of acc and M, in A or (T = 1) in the zero-page byte X addresses; N and Z are those of
the result, C and V unchanged; D has no effect; nothing else but PC changes. N and Z of ORA and EOR are general
knowledge in the spec (log entry 25). -/
def Obligations.LogicWorksBitByBit : Prop :=
  ∀ i : Instr, i.mnemonic = .and ∨ i.mnemonic = .ora ∨ i.mnemonic = .eor → ∃ o, i.operand? = some o ∧ ∀ s : State,
    ∃ t r, exec i s = .next t ∧
    (∀ k : Nat, r.getLsbD k =
      (if i.mnemonic = .and then (accOperand s).getLsbD k && (o.value s).getLsbD k
       else if i.mnemonic = .ora then (accOperand s).getLsbD k || (o.value s).getLsbD k
       else (accOperand s).getLsbD k != (o.value s).getLsbD k)) ∧
    AccResult s t r ∧ t.ps = withNZ s.ps r ∧
    t.x = s.x ∧ t.y = s.y ∧ t.sp = s.sp ∧ PastInstr i s t ∧ Steady s t

/-- CMP, CPX and CPY: N, Z and C of the difference, nothing written. Every form of CMP (against A, or against the zero-
page byte X addresses when T = 1), CPX and CPY completes: C is 1 exactly when the register is at least M unsigned, Z
when they are equal, N is bit 7 of the difference modulo 256; V, D, T, I, every register and every byte are
unchanged, and PC advances. The flags of CPX and CPY are general knowledge in the spec (log entry 25); that C is 1
where no borrow occurs is the decision D19 of the spec (log entry 36). -/
def Obligations.ComparesSetFlagsOnly : Prop :=
  ∀ i : Instr, i.mnemonic = .cmp ∨ i.mnemonic = .cpx ∨ i.mnemonic = .cpy → ∃ o, i.operand? = some o ∧ ∀ s : State,
    ∃ t r, exec i s = .next t ∧
    r = (if i.mnemonic = .cmp then accOperand s else if i.mnemonic = .cpx then s.x else s.y) ∧
    t.ps = { s.ps with
      n := decide (128 ≤ (r.toNat + 256 - (o.value s).toNat) % 256)
      z := decide (r = o.value s)
      c := decide ((o.value s).toNat ≤ r.toNat) } ∧
    SameRegs s t ∧ SameMemory s t ∧ PastInstr i s t ∧ Steady s t

/-- BIT takes N and V from memory and Z from the AND with A; TST takes N and Z from memory. Both forms of BIT and the
one of TST complete: BIT puts bits 7 and 6 of M in N and V and says in Z whether A and M have no bit in common,
whatever T is; TST sets N and Z of M; nothing else but PC changes. That Z of BIT is that of A AND M is general
knowledge in the spec (D18, log entry 25). -/
def Obligations.BitAndTstSetFlagsOnly : Prop :=
  (∀ i : Instr, i.mnemonic = .bit → ∃ o, i.operand? = some o ∧ ∀ s : State, ∃ t, exec i s = .next t ∧
    t.ps = { s.ps with
      n := (o.value s).getLsbD 7
      v := (o.value s).getLsbD 6
      z := decide (∀ k : Fin 8, (s.a.getLsbD k && (o.value s).getLsbD k) = false) } ∧
    SameRegs s t ∧ SameMemory s t ∧ PastInstr i s t ∧ Steady s t) ∧
  (∀ (z : Byte) (s : State), ∃ t, exec (.tstZp z) s = .next t ∧
    t.ps = withNZ s.ps (s.read .data (zpAddr z)) ∧
    SameRegs s t ∧ SameMemory s t ∧ PastInstr (.tstZp z) s t ∧ Steady s t)

/-- INC, DEC, COM and RRF: one byte read, changed and written back. Every form of INC, DEC and COM and the one of RRF
completes: the byte (A in the accumulator form) becomes itself plus 1, less 1, or its complement (255 less it), with
N and Z, or its nibbles exchanged with no flag; C and V are unchanged and nothing else but PC changes. N and Z of
INC, DEC and COM are general knowledge in the spec (log entry 25). -/
def Obligations.IncDecComAndRrfModifyInPlace : Prop :=
  ∀ i : Instr, i.mnemonic = .inc ∨ i.mnemonic = .dec ∨ i.mnemonic = .com ∨ i.mnemonic = .rrf →
    ∃ o, i.operand? = some o ∧ ∀ s : State, ∃ t r, exec i s = .next t ∧
    r.toNat = (if i.mnemonic = .inc then ((o.value s).toNat + 1) % 256
      else if i.mnemonic = .dec then ((o.value s).toNat + 255) % 256
      else if i.mnemonic = .com then 255 - (o.value s).toNat
      else 16 * ((o.value s).toNat % 16) + (o.value s).toNat / 16) ∧
    OperandResult o s t r ∧ t.ps = (if i.mnemonic = .rrf then s.ps else withNZ s.ps r) ∧
    t.x = s.x ∧ t.y = s.y ∧ t.sp = s.sp ∧ PastInstr i s t ∧ Steady s t

/-- INX, INY, DEX and DEY: one more or one less modulo 256, with N and Z. Each of the four, at its one-byte opcode and
with two cycles, adds 1 to or subtracts 1 from its register modulo 256, sets N and Z, and changes nothing else but
PC. That they set N and Z is marked general knowledge in the spec (log entry 25). -/
def Obligations.RegisterIncrementsWrap : Prop :=
  encode .inx = [0xE8#8] ∧ encode .iny = [0xC8#8] ∧ encode .dex = [0xCA#8] ∧ encode .dey = [0x88#8] ∧
  ∀ s : State,
    Instr.cycles .inx s = 2 ∧ Instr.cycles .iny s = 2 ∧ Instr.cycles .dex s = 2 ∧ Instr.cycles .dey s = 2 ∧
    (∃ r : Byte, r.toNat = (s.x.toNat + 1) % 256 ∧
      exec .inx s = .next (((s.setX r).setPs (withNZ s.ps r)).setPc (s.pc + 1#16))) ∧
    (∃ r : Byte, r.toNat = (s.y.toNat + 1) % 256 ∧
      exec .iny s = .next (((s.setY r).setPs (withNZ s.ps r)).setPc (s.pc + 1#16))) ∧
    (∃ r : Byte, r.toNat = (s.x.toNat + 255) % 256 ∧
      exec .dex s = .next (((s.setX r).setPs (withNZ s.ps r)).setPc (s.pc + 1#16))) ∧
    (∃ r : Byte, r.toNat = (s.y.toNat + 255) % 256 ∧
      exec .dey s = .next (((s.setY r).setPs (withNZ s.ps r)).setPc (s.pc + 1#16)))

/-- MUL: the low byte of the unsigned product to A, the high byte pushed. MUL completes: A times the byte at the zero-
page address zz + X is 256 times the byte pushed plus the new A; S is decremented; no flag and no other byte or
register but PC changes, whatever T and D are. That the operands are unsigned is D14 of the spec. D14 is general
knowledge in the spec (log entry 24); that MUL writes no flag is general knowledge in the spec (log entry 25); the
wrap of zz + X is the decision D16 and that of S D5 (log entry 32). -/
def Obligations.MulPushesTheHighByte : Prop :=
  ∀ (z : Byte) (s : State), ∃ t h, exec (.mulZpX z) s = .next t ∧
    256 * h.toNat + t.a.toNat = s.a.toNat * (s.read .data ((MemOperand.zpX z).ea s)).toNat ∧
    StoresByte s t s.stackAddr h ∧ t.sp = s.sp - 1#8 ∧ t.x = s.x ∧ t.y = s.y ∧ t.ps = s.ps ∧
    PastInstr (.mulZpX z) s t ∧ Steady s t

/-- DIV: the quotient to A, the complement of the remainder pushed; free values where the spec has none. DIV completes
for every dividend and divisor: S is decremented, one byte is pushed, and no flag and no other byte or register but
A and PC changes; where the divisor is not 0 and the quotient fits a byte, dividend = quotient x divisor + remainder
with the remainder below the divisor, A is the quotient and the byte pushed is 255 less the remainder. The unsigned
reading, and the corner cases with free values that still decrement S, are the decision D15 of the spec (log entry
24); that DIV writes no flag is general knowledge in the spec (log entry 25); the wrap of the address of the
dividend is the decision D16 and that of S D5 (log entry 32). -/
def Obligations.DivLeavesQuotientAndRemainder : Prop :=
  ∀ (z : Byte) (s : State), ∃ t h, exec (.divZpX z) s = .next t ∧
    StoresByte s t s.stackAddr h ∧ t.sp = s.sp - 1#8 ∧ t.x = s.x ∧ t.y = s.y ∧ t.ps = s.ps ∧
    PastInstr (.divZpX z) s t ∧ Steady s t ∧
    ∀ lo hi : Addr, lo.toNat = (z.toNat + s.x.toNat) % 256 → hi.toNat = (z.toNat + s.x.toNat + 1) % 256 →
      ∀ n : Nat, n = 256 * (s.read .dataHi hi).toNat + (s.read .data lo).toNat →
        s.a ≠ 0x00#8 → n / s.a.toNat ≤ 255 →
          n = t.a.toNat * s.a.toNat + (255 - h.toNat) ∧ 255 - h.toNat < s.a.toNat

/-- ASL, LSR, ROL and ROR: one bit, through C for the rotates, with N, Z and C. Every form of the four completes: the
byte (A in the accumulator form) is doubled or halved, the rotates bring the old C in at the free end, C is the bit
shifted out, N and Z are those of the result; V is unchanged and nothing else but PC changes. N, Z and C of LSR are
general knowledge in the spec (log entry 25). -/
def Obligations.ShiftsAndRotatesMoveOneBit : Prop :=
  ∀ i : Instr, i.mnemonic = .asl ∨ i.mnemonic = .lsr ∨ i.mnemonic = .rol ∨ i.mnemonic = .ror →
    ∃ o, i.operand? = some o ∧ ∀ s : State, ∃ t r, exec i s = .next t ∧
    r.toNat = (if i.mnemonic = .asl then 2 * (o.value s).toNat % 256
      else if i.mnemonic = .lsr then (o.value s).toNat / 2
      else if i.mnemonic = .rol then (2 * (o.value s).toNat + s.ps.c.toNat) % 256
      else (o.value s).toNat / 2 + 128 * s.ps.c.toNat) ∧
    OperandResult o s t r ∧
    t.ps = { withNZ s.ps r with
      c := if i.mnemonic = .asl ∨ i.mnemonic = .rol then decide (128 ≤ (o.value s).toNat)
           else decide ((o.value s).toNat % 2 = 1) } ∧
    t.x = s.x ∧ t.y = s.y ∧ t.sp = s.sp ∧ PastInstr i s t ∧ Steady s t

/-- CLB and SEB: one bit cleared or set, the other seven written back, no flag. Every form of CLB and SEB completes: the
bit the opcode names is 0 (CLB) or 1 (SEB) in A or in the zero-page byte, the other seven bits are as read, no flag
and nothing else but PC changes. That CLB writes no flag is general knowledge in the spec (log entry 25). -/
def Obligations.ClbAndSebChangeOneBit : Prop :=
  ∀ i : Instr, i.mnemonic = .clb ∨ i.mnemonic = .seb → ∃ b o, i.bitOperand? = some (b, o) ∧ ∀ s : State,
    ∃ t r, exec i s = .next t ∧
    (∀ k : Nat, k < 8 → r.getLsbD k =
      (if k = b.toNat then decide (i.mnemonic = .seb) else (o.value s).getLsbD k)) ∧
    OperandResult o s t r ∧ t.ps = s.ps ∧
    t.x = s.x ∧ t.y = s.y ∧ t.sp = s.sp ∧ PastInstr i s t ∧ Steady s t

/-- CLC SEC CLD SED CLI SEI CLT SET CLV write one flag each. Each of the nine, at its one-byte opcode, clears or sets
its one flag and changes nothing else but PC; SEI, which sets I, leaves no hardware interrupt acceptable and BRK
completes all the same. That BRK completes also where the BRK bug holds is the continuation of log entry 13 (the
spec's own model refuses there). -/
def Obligations.FlagInstructionsWriteOneFlag : Prop :=
  encode .clc = [0x18#8] ∧ encode .sec = [0x38#8] ∧ encode .cld = [0xD8#8] ∧ encode .sed = [0xF8#8] ∧
  encode .cli = [0x58#8] ∧ encode .sei = [0x78#8] ∧ encode .clt = [0x12#8] ∧ encode .set = [0x32#8] ∧
  encode .clv = [0xB8#8] ∧
  ∀ s : State,
    exec .clc s = .next ((s.setPs { s.ps with c := false }).setPc (s.pc + 1#16)) ∧
    exec .sec s = .next ((s.setPs { s.ps with c := true }).setPc (s.pc + 1#16)) ∧
    exec .cld s = .next ((s.setPs { s.ps with d := false }).setPc (s.pc + 1#16)) ∧
    exec .sed s = .next ((s.setPs { s.ps with d := true }).setPc (s.pc + 1#16)) ∧
    exec .cli s = .next ((s.setPs { s.ps with i := false }).setPc (s.pc + 1#16)) ∧
    exec .sei s = .next ((s.setPs { s.ps with i := true }).setPc (s.pc + 1#16)) ∧
    exec .clt s = .next ((s.setPs { s.ps with t := false }).setPc (s.pc + 1#16)) ∧
    exec .set s = .next ((s.setPs { s.ps with t := true }).setPc (s.pc + 1#16)) ∧
    exec .clv s = .next ((s.setPs { s.ps with v := false }).setPc (s.pc + 1#16)) ∧
    ((s.setPs { s.ps with i := true }).setPc (s.pc + 1#16)).nextInterrupt = none ∧
    (∃ t, exec .brk ((s.setPs { s.ps with i := true }).setPc (s.pc + 1#16)) = .next t)

/-- JMP ABS, IND and ZP,IND: PC from the operand or from the pointer, nothing else. JMP ABS goes to its operand; JMP
IND, for an operand whose low byte is not FF, goes to the two bytes at the operand and at the next address, low byte
first; JMP ZP,IND goes to the two zero-page bytes at the operand and at the operand plus 1 modulo 256; nothing but
PC changes. That the second pointer byte of JMP ZP,IND stays in the zero page is the decision D3 of the spec (log
entry 32); that JMP writes no flag is general knowledge in the spec (log entry 25). JMP IND with an operand low byte
FF has a statement of its own. -/
def Obligations.JmpGoesToItsTarget : Prop :=
  ∀ s : State,
    (∀ a : Addr, exec (.jmpAbs a) s = .next (s.setPc a)) ∧
    (∀ a : Addr, a.toNat % 256 ≠ 255 → ∃ pc : Addr, exec (.jmpInd a) s = .next (s.setPc pc) ∧
      pc.toNat = 256 * (s.read .pointerHi (a + 1#16)).toNat + (s.read .pointerLo a).toNat) ∧
    (∀ (z : Byte) (lo hi : Addr), lo.toNat = z.toNat → hi.toNat = (z.toNat + 1) % 256 →
      ∃ pc : Addr, exec (.jmpZpInd z) s = .next (s.setPc pc) ∧
        pc.toNat = 256 * (s.read .pointerHi hi).toNat + (s.read .pointerLo lo).toNat)

/-- JMP IND with an operand low byte FF is refused unless parameter P21 gives a behaviour. For a pointer whose first
byte is the last of a page, JMP IND gives no next state under the default of P21, by name; a platform that supplies
a behaviour gets the high byte from the first address of the same page or from the next address (these two values of
P21 are the model's choice, log entry 12). The refusal is the decision D4 of the spec (log entry 20). -/
def Obligations.JmpIndirectAtPageEndFollowsThePlatform : Prop :=
  ∀ (s : State) (a : Addr), loByte a = 0xFF#8 →
    (s.cfg.jmpIndLastByte = .refuse → exec (.jmpInd a) s = .refused (.jmpIndirectAtPageEnd a)) ∧
    (s.cfg.jmpIndLastByte = .samePage → exec (.jmpInd a) s =
      .next (s.setPc (addrOf (s.read .pointerHi (addrOf (hiByte a) 0x00#8)) (s.read .pointerLo a)))) ∧
    (s.cfg.jmpIndLastByte = .nextPage → exec (.jmpInd a) s =
      .next (s.setPc (addrOf (s.read .pointerHi (a + 1#16)) (s.read .pointerLo a))))

/-- JSR: the address one before the next instruction is stacked, PC_H first, then the jump. Every form of JSR completes:
PC plus the length less 1 is pushed, high byte first; PC becomes the operand (ABS), the special-page address (SP),
or the zero-page pointer as read after the pushes (ZP,IND); S is decremented twice; no flag and no other register or
byte changes. That the pointer of JSR ZP,IND stays in the zero page is the decision D3 of the spec, and the wrap of
S inside its page D5 (log entry 32); that JSR writes no flag is general knowledge in the spec (log entry 25). -/
def Obligations.JsrStacksItsLastByteAddress : Prop :=
  ∀ i : Instr, i.mnemonic = .jsr → ∀ s : State, ∃ t ret s1 s2, exec i s = .next t ∧
    ret = s.pc + BitVec.ofNat 16 i.length - 1#16 ∧ s1 = s.push (hiByte ret) ∧ s2 = s1.push (loByte ret) ∧
    StoresTwo s t s.stackAddr (hiByte ret) s1.stackAddr (loByte ret) ∧
    t.sp = s.sp - 2#8 ∧ t.a = s.a ∧ t.x = s.x ∧ t.y = s.y ∧ t.ps = s.ps ∧ Steady s t ∧
    (∀ a : Addr, i = .jsrAbs a → t.pc = a) ∧
    (∀ l : Byte, i = .jsrSp l → t.pc.toNat = 256 * s.cfg.specialPageHi.toNat + l.toNat) ∧
    (∀ (z : Byte) (lo hi : Addr), i = .jsrZpInd z → lo.toNat = z.toNat → hi.toNat = (z.toNat + 1) % 256 →
      t.pc.toNat = 256 * (s2.read .pointerHi hi).toNat + (s2.read .pointerLo lo).toNat)

/-- RTS pulls PC and adds 1; RTI pulls PS and PC and adds nothing. RTS pulls PC_L and PC_H and goes to that address plus
1; RTI pulls the seven flags (bit 4 discarded), PC_L and PC_H and goes to that address; S moves by 2 or 3 modulo
256; no other register and no byte changes. That RTS adds 1 is the decision D32 of the spec (log entry 34), that RTI
discards bit 4 D27 (log entry 29), and the wraps of S and of PC D5 and D1 (log entry 32). -/
def Obligations.RtsAndRtiPullTheirAddress : Prop :=
  ∀ s : State,
    (∃ t lo hi, exec .rts s = .next t ∧ lo = s.read .pull1 (addrOf s.stackPageHi (s.sp + 1#8)) ∧
      hi = s.read .pull2 (addrOf s.stackPageHi (s.sp + 2#8)) ∧
      t.pc.toNat = (256 * hi.toNat + lo.toNat + 1) % 65536 ∧ t.sp = s.sp + 2#8 ∧
      t.a = s.a ∧ t.x = s.x ∧ t.y = s.y ∧ t.ps = s.ps ∧ SameMemory s t ∧ Steady s t) ∧
    (∃ t p lo hi, exec .rti s = .next t ∧ p = s.read .pull1 (addrOf s.stackPageHi (s.sp + 1#8)) ∧
      lo = s.read .pull2 (addrOf s.stackPageHi (s.sp + 2#8)) ∧
      hi = s.read .pull3 (addrOf s.stackPageHi (s.sp + 3#8)) ∧
      t.ps = ⟨p.getLsbD 7, p.getLsbD 6, p.getLsbD 5, p.getLsbD 3, p.getLsbD 2, p.getLsbD 1, p.getLsbD 0⟩ ∧
      t.pc.toNat = 256 * hi.toNat + lo.toNat ∧ t.sp = s.sp + 3#8 ∧
      t.a = s.a ∧ t.x = s.x ∧ t.y = s.y ∧ SameMemory s t ∧ Steady s t)

/-- The nine relative branches: the signed offset added to the next address where the condition holds. Each relative
branch completes and changes nothing but PC: it becomes the address after the instruction, plus the signed offset
modulo 2^16 where the flag has the value the rule names (BRA always). That the offset counts from the next address
is the decision D37 of the spec, and the wrap modulo 2^16 D1 (log entry 32). That a branch writes no flag is general
knowledge in the spec (log entry 25). -/
def Obligations.BranchesTestOneFlag : Prop :=
  ∀ (s : State) (r : Byte),
    let next : Addr := s.pc + 2#16
    let target : Addr := BitVec.ofInt 16 (next.toNat + r.toInt)
    exec (.bcc r) s = .next (s.setPc (if s.ps.c = false then target else next)) ∧
    exec (.bcs r) s = .next (s.setPc (if s.ps.c = true then target else next)) ∧
    exec (.beq r) s = .next (s.setPc (if s.ps.z = true then target else next)) ∧
    exec (.bne r) s = .next (s.setPc (if s.ps.z = false then target else next)) ∧
    exec (.bmi r) s = .next (s.setPc (if s.ps.n = true then target else next)) ∧
    exec (.bpl r) s = .next (s.setPc (if s.ps.n = false then target else next)) ∧
    exec (.bvc r) s = .next (s.setPc (if s.ps.v = false then target else next)) ∧
    exec (.bvs r) s = .next (s.setPc (if s.ps.v = true then target else next)) ∧
    exec (.bra r) s = .next (s.setPc target)

/-- BBC and BBS: the branch depends on one bit of A or of a zero-page byte. Every form of BBC and BBS completes and
changes nothing but PC: it becomes the address after the instruction, plus the signed offset modulo 2^16 where the
bit the opcode names is 0 (BBC) or 1 (BBS). That the offset counts from the next address is the decision D37 of the
spec, and the wrap modulo 2^16 D1 (log entry 32); that BBC and BBS write no flag is general knowledge in the spec
(log entry 25). -/
def Obligations.BitBranchesTestOneBit : Prop :=
  ∀ i : Instr, i.mnemonic = .bbc ∨ i.mnemonic = .bbs →
    ∃ b o r, i.bitOperand? = some (b, o) ∧ i.offset? = some r ∧ ∀ s : State,
      let next : Addr := s.pc + BitVec.ofNat 16 i.length
      exec i s = .next (s.setPc
        (if (o.value s).getLsbD b.toNat = decide (i.mnemonic = .bbs) then BitVec.ofInt 16 (next.toNat + r.toInt)
         else next))

/-- BRK: PC, PS with B = 1 stacked, I set, PC from VEC_BRK. BRK completes whatever I is: PC plus 1 or 2 (parameter P16)
is pushed high byte first, then PS with bit 4 = 1; I becomes 1, or 0 where the BRK bug holds (the continuation the
spec offers, log entry 13); no other flag or register but S changes; PC is loaded from VEC_BRK, low byte first. With
no request bit unsettled or forced, the bug holds exactly on a part with it, with I = 1 and the request and the
enable bit of some source at 1 (which view of an unsettled bit it takes is log entry 13 too). Also choices: that BRK
changes I alone is the decision D11 of the spec (log entry 28), a vector of two bytes, low byte first, D21 (log
entry 34), VEC_BRK on a part without sources log entry 30, and the wrap of S inside its page D5 (log entry 32). -/
def Obligations.BrkEntersItsVector : Prop :=
  ∀ s : State, ∃ t ret p s1 s2, exec .brk s = .next t ∧
    ret = s.pc + (if s.cfg.brkOffset = .one then 1#16 else 2#16) ∧
    p = s.ps.toByte true ∧ p.getLsbD 4 = true ∧
    s1 = s.push (hiByte ret) ∧ s2 = s1.push (loByte ret) ∧
    StoresThree s t s.stackAddr (hiByte ret) s1.stackAddr (loByte ret) s2.stackAddr p ∧
    t.sp = s.sp - 3#8 ∧ t.ps = { s.ps with i := !s.brkBugHolds } ∧
    (s.cfg.part.brkBug = false ∨ s.ps.i = false → s.brkBugHolds = false) ∧
    (s.window.fresh = [] → s.window.forced = [] → (s.brkBugHolds = true ↔ s.cfg.part.brkBug = true ∧ s.ps.i = true ∧
      ∃ src ∈ s.cfg.sources, s.latch src.request = true ∧ s.latch src.enable = true)) ∧
    t.a = s.a ∧ t.x = s.x ∧ t.y = s.y ∧ Steady s t ∧
    t.pc.toNat = 256 * (t.read .vectorHi (vecBrk s.cfg + 1#16)).toNat + (t.read .vectorLo (vecBrk s.cfg)).toNat

/-- NOP, FST and SLW advance PC; FST and SLW switch the X_OUTF connection. NOP (EA, two cycles) changes PC only; FST
(E2) connects and SLW (C2) disconnects X_OUTF and changes nothing else but PC; FST and SLW are present exactly on
the parts with P7, where E2 is not DIV; on a part with WIT, C2 is WIT. That NOP and FST write no flag is marked
general knowledge in the spec (log entry 25). -/
def Obligations.NopFstAndSlwOnlyPass : Prop :=
  encode .nop = [0xEA#8] ∧ encode .slw = [0xC2#8] ∧ encode .fst = [0xE2#8] ∧
  (∀ p : Part, (WellFormed p .slw ↔ p.hasFstSlw = true) ∧ (WellFormed p .fst ↔ p.hasFstSlw = true) ∧
    (p.hasMulDiv && p.hasFstSlw) = false ∧
    ∀ b1 b2 : Byte, p.hasWit = true → decode p 0xC2#8 b1 b2 = .ok .wit) ∧
  ∀ s : State,
    Instr.cycles .nop s = 2 ∧ Instr.cycles .slw s = 2 ∧ Instr.cycles .fst s = 2 ∧
    Instr.length .nop = 1 ∧ Instr.length .slw = 1 ∧ Instr.length .fst = 1 ∧
    exec .nop s = .next (s.setPc (s.pc + 1#16)) ∧
    exec .fst s = .next ((s.setPc (s.pc + 1#16)).setXoutf true) ∧
    exec .slw s = .next ((s.setPc (s.pc + 1#16)).setXoutf false)

/-- STP and WIT stop the CPU; a wake event ends the stop, by interrupt entry or at the next instruction. STP and WIT
advance PC, enter their stopped state and change nothing else. At a boundary the environment's requests are made:
the request bit of each requested source is 1, and every other bit of memory, the registers, PS, PC and the run
state are as before. Without a wake event a step of a stopped CPU does nothing more. At a wake event (an external
one that P20 admits, or a request or an acceptable interrupt of a waking source) the CPU runs: where an interrupt is
accepted the step enters it, with PC, the next of the STP or WIT, stacked; where none is accepted, or recognition is
postponed, the step runs the instruction at PC. What a stopped step keeps, and that the step of the wake event
itself runs on, is the model's choice (log entry 31; R304 calls its model this spec's choice); the script is log
entry 2. That the entry changes I alone among the flags is the decision D11 of the spec (log entry 28). -/
def Obligations.StpAndWitStopTheCpu : Prop :=
  (∀ s : State,
    exec .stp s = .next ((s.setPc (s.pc + 1#16)).setRun .stoppedStp) ∧
    exec .wit s = .next ((s.setPc (s.pc + 1#16)).setRun .stoppedWit)) ∧
  (∀ s : State, SameRegs s s.atBoundary ∧ s.atBoundary.pc = s.pc ∧ s.atBoundary.ps = s.ps ∧ s.atBoundary.run = s.run ∧
    (∀ b : Addr, (∀ src ∈ s.cfg.sources, src.request.addr ≠ b) → s.atBoundary.byteAt b = s.byteAt b) ∧
    (∀ l : BitLoc, (∀ k ∈ s.input.requests, ∀ src, s.cfg.sources[k]? = some src → src.request ≠ l) →
      s.atBoundary.latch l = s.latch l) ∧
    (∀ k ∈ s.input.requests, ∀ src, s.cfg.sources[k]? = some src → s.atBoundary.latch src.request = true)) ∧
  (∀ s : State, s.run ≠ .running → s.input.reset = false → ¬ WakeEvent s →
    step s = .next (s.atBoundary.setTick (s.tick + 1))) ∧
  (∀ s w : State, s.run ≠ .running → s.input.reset = false → WakeEvent s → w = s.atBoundary.setRun .running →
    (s.input.postpone = false → ∀ (k : Nat) (src : IrqSource), w.nextInterrupt = some (k, src) →
      ∃ u : State, step s = .next u ∧ u = ((w.enterInterrupt src).setWindow (windowAfterEntry w k)).tickOn ∧
        u.run = .running ∧ u.ps = { s.ps with i := true } ∧
        (PlainStack 3 w → AcknowledgeSparesTheFrame w src →
          u.byteAt (w.stackSlot 0) = hiByte s.pc ∧ u.byteAt (w.stackSlot 1) = loByte s.pc)) ∧
    (s.input.postpone = true ∨ w.nextInterrupt = none → ∀ (i : Instr) (t : State), w.fetch = .ok i →
      exec i (w.prepare i) = .next t → step s = .next (w.settle s.input.postpone i t)))

/-- A step of a running CPU with nothing to accept is exec of the instruction at PC. When the CPU runs, the environment
is quiet at this boundary, no interrupt is acceptable and the bytes at PC decode to i, the step is exec of i on the
prepared state (the script's entry taken), settled (the hazard windows and the step number); a refusal of exec is
the step's. At a boundary at which only the recognition of interrupts is postponed the same holds whatever is
acceptable, no request bit is acknowledged and a forced source stays forced. After an instruction other than PLP
nothing is prepared, and with both flag windows closed settling changes no field but the windows and the step
number. The script is log entry 2; prompt entry, the postponed boundary and the forced source are log entries 27 and
15; what is prepared and settled around the instruction in the two flag windows is log entries 14 and 17; that a
fetch is an ordinary read of memory is the decision D7 of the spec (log entry 33). -/
def Obligations.StepRunsTheDecodedInstruction : Prop :=
  (∀ (s : State) (i : Instr), RunsInstr s i →
    (∀ t, exec i (s.dropInput.prepare i) = .next t → step s = .next (s.dropInput.settle false i t)) ∧
    (∀ r, exec i (s.dropInput.prepare i) = .refused r → step s = .refused r)) ∧
  (∀ (s t : State) (i : Instr), s.run = .running → s.input = ⟨[], false, true, false⟩ → s.fetch = .ok i →
    exec i (s.dropInput.prepare i) = .next t → ∃ u : State, step s = .next u ∧ u = s.dropInput.settle true i t ∧
      (∀ l : BitLoc, u.latch l = t.latch l) ∧ ∀ k ∈ s.window.forced, k ∈ u.window.forced) ∧
  (∀ s : State, s.dropInput = s.setScript s.script.tail) ∧
  (∀ (s : State) (i : Instr), s.window.afterPlp = false → s.prepare i = s) ∧
  (∀ (s t : State) (i : Instr), s.window.afterPlp = false → s.window.afterDecimal = false →
    s.settle false i t = (t.setWindow (windowAfter false i s t)).setTick (t.tick + 1))

/-- Every step keeps memory in its canonical form. For every state whose memory has addresses strictly rising and below
2^16 and lists no byte equal to what an unlisted address reads as, every next state of a step has the same:
instructions, interrupt entry, reset and device requests alike. The form is the model's own, and the byte that an
unlisted address reads as is log entry 5. -/
def Obligations.StepKeepsMemoryCanonical : Prop :=
  ∀ s t : State, Memory.wf s.mem = true → step s = .next t → Memory.wf t.mem = true

/-- The reset state: I = 1, running, PC from the reset vector, canonical memory. In State.reset I is 1, the CPU runs, PC
holds the two bytes at VEC_RESET, memory is canonical, no interrupt is acceptable and a step decodes the byte at PC.
PC from a two-byte vector is the decision D21 of the spec and general knowledge there (log entry 34). Which two
bytes stand there, and that the step decodes some instruction, rests on the model's choice that memory is empty and
an unwritten byte is 00 (log entries 5 and 10); no interrupt is acceptable because I is 1. The values of the other
registers and of the parameters are the model's choice (log entries 1 and 6 to 10) and not stated. -/
def Obligations.ResetHoldsItsValues : Prop :=
  State.reset.ps.i = true ∧ State.reset.run = .running ∧ Memory.wf State.reset.mem = true ∧
  State.reset.pc = addrOf (State.reset.read .vectorHi (State.reset.cfg.vecReset + 1#16))
    (State.reset.read .vectorLo State.reset.cfg.vecReset) ∧
  State.reset.nextInterrupt = none ∧ (∃ i, RunsInstr State.reset i)

/-- Reset at any boundary, in any run state: I = 1, running, PC from the reset vector. A step whose environment asserts
reset takes the reset event, whatever the run state: I becomes 1, the CPU runs, PC is loaded from VEC_RESET, SPS and
the request and enable bits take their reset values where no two of them share a place; nothing is pushed. The
model's choices: every byte that holds no control bit is kept (log entry 9), the hazard windows close and the X_OUTF
connection is kept (log entry 10), and the reset comes from the script (log entry 2). PC from a two-byte vector at
VEC_RESET is the decision D21 of the spec and general knowledge there (log entry 34). -/
def Obligations.ResetEventRestartsTheMachine : Prop :=
  ∀ (s : State) (e : EnvInput) (rest : List EnvInput), s.script = e :: rest → e.reset = true →
    ∃ t : State, step s = .next (t.setTick (s.tick + 1)) ∧
      t.ps.i = true ∧ t.run = .running ∧ t.window = .closed ∧ t.xoutf = s.xoutf ∧ t.cfg = s.cfg ∧ t.script = rest ∧
      t.pc.toNat = 256 * (t.read .vectorHi (s.cfg.vecReset + 1#16)).toNat + (t.read .vectorLo s.cfg.vecReset).toNat ∧
      ((controlBits s.cfg).Nodup →
        (s.cfg.hasSps = true → t.latch (spsLoc s.cfg) = s.cfg.spsReset) ∧
        ∀ src ∈ s.cfg.sources, t.latch src.request = src.requestReset ∧ t.latch src.enable = src.enableReset) ∧
      (∀ b : Addr, (∀ l ∈ controlBits s.cfg, l.addr ≠ b) → t.byteAt b = s.byteAt b)

/-- No step changes the family member's parameters; each step takes one environment input. Whatever a step does, the
parameters are unchanged, the step number grows by 1 and the environment's script loses its first entry. (The last
two are the model's own fields, log entries 2 and 3.) -/
def Obligations.StepKeepsTheParameters : Prop :=
  ∀ s t : State, step s = .next t → t.cfg = s.cfg ∧ t.tick = s.tick + 1 ∧ t.script = s.script.tail

/-- Every instruction completes in every state, but JMP IND at a page end without a behaviour. exec answers a next state
for every instruction and every state, except for JMP IND whose operand low byte is FF where parameter P21 gives no
behaviour; it never answers a fault. That BRK completes also where the BRK bug holds is the continuation of log
entry 13 (the spec's own model refuses there). -/
def Obligations.OnlyJmpIndirectCanStop : Prop :=
  ∀ (i : Instr) (s : State), (∃ t, exec i s = .next t) ∨
    (∃ a : Addr, i = .jmpInd a ∧ loByte a = 0xFF#8 ∧ s.cfg.jmpIndLastByte = .refuse ∧
      exec i s = .refused (.jmpIndirectAtPageEnd a))

/-- An instruction changes no flag that the flag table does not list for it. If exec answers a next state, every flag
that the table of flags written does not list for the instruction has the value it had. Many rows of that table
(R39, mark G: ORA, EOR, COM, CPX, CPY, INC, DEC, INX, INY, DEX, DEY, LSR, LDX, LDY, Z of BIT, and no flag for BBC,
BBS, the branches, CLB, DIV, MUL, FST, JMP, JSR, LDM, NOP) are general knowledge in the spec, not in the source (log
entry 25); that BRK writes I alone is the decision D11 (log entry 28). -/
def Obligations.FlagsOutsideTheTableAreUnchanged : Prop :=
  ∀ (i : Instr) (s t : State), exec i s = .next t →
    (i.mnemonic.flagsWritten.n = false → t.ps.n = s.ps.n) ∧ (i.mnemonic.flagsWritten.v = false → t.ps.v = s.ps.v) ∧
    (i.mnemonic.flagsWritten.t = false → t.ps.t = s.ps.t) ∧ (i.mnemonic.flagsWritten.d = false → t.ps.d = s.ps.d) ∧
    (i.mnemonic.flagsWritten.i = false → t.ps.i = s.ps.i) ∧ (i.mnemonic.flagsWritten.z = false → t.ps.z = s.ps.z) ∧
    (i.mnemonic.flagsWritten.c = false → t.ps.c = s.ps.c)

/-- A, X, Y and S are written only by the instructions the register rules list. If exec answers a next state: A is
unchanged unless the instruction is one of those listed for A (in the accumulator form for the shifts, INC, DEC, CLB
and SEB; with T = 0 for LDA, ADC, SBC, AND, ORA, EOR); X, Y and S likewise for their lists. No addressing mode
changes X or Y. -/
def Obligations.OnlyListedInstructionsWriteARegister : Prop :=
  ∀ (i : Instr) (s t : State), exec i s = .next t →
    (t.a ≠ s.a →
      (i.mnemonic ∈ [.lda, .adc, .sbc, .and, .ora, .eor] ∧ s.ps.t = false) ∨
      (i.mnemonic ∈ [.asl, .lsr, .rol, .ror, .inc, .dec] ∧ i.operand? = some .acc) ∨
      (i.mnemonic ∈ [.clb, .seb] ∧ ∃ b, i.bitOperand? = some (b, .acc)) ∨
      i.mnemonic ∈ [.txa, .tya, .pla, .mul, .div]) ∧
    (t.x ≠ s.x → i.mnemonic ∈ [.ldx, .tax, .tsx, .inx, .dex]) ∧
    (t.y ≠ s.y → i.mnemonic ∈ [.ldy, .tay, .iny, .dey]) ∧
    (t.sp ≠ s.sp → i.mnemonic ∈ [.txs, .jsr, .brk, .pha, .php, .mul, .div, .rts, .rti, .pla, .plp])

/-- Memory changes only in a store, a push, a read-modify-write or a T = 1 result. If exec answers a next state and some
byte changed, the instruction is STA, STX, STY or LDM, or pushes (PHA, PHP, MUL, DIV, JSR, BRK), or modifies a
memory operand (ASL, LSR, ROL, ROR, INC, DEC, COM, RRF, CLB, SEB), or is LDA, ADC, SBC, AND, ORA or EOR with T = 1. -/
def Obligations.OnlyStoringFormsChangeMemory : Prop :=
  ∀ (i : Instr) (s t : State) (b : Addr), exec i s = .next t → t.byteAt b ≠ s.byteAt b →
    i.mnemonic ∈ [.sta, .stx, .sty, .ldm, .pha, .php, .mul, .div, .jsr, .brk] ∨
    (i.mnemonic ∈ [.asl, .lsr, .rol, .ror, .inc, .dec, .com, .rrf] ∧ ∃ m, i.operand? = some (.mem m)) ∨
    (i.mnemonic ∈ [.clb, .seb] ∧ ∃ k m, i.bitOperand? = some (k, .mem m)) ∨
    (i.mnemonic ∈ [.lda, .adc, .sbc, .and, .ora, .eor] ∧ s.ps.t = true)

/-- An instruction that is no control transfer leaves PC at the next instruction. If exec answers a next state for an
instruction other than JMP, JSR, RTS, RTI, BRK and the branches, PC has advanced by the instruction's length modulo
2^16; a conditional branch that is not taken does so too. The wrap modulo 2^16 is the decision D1 of the spec (log
entry 32). -/
def Obligations.PcAdvancesByTheLength : Prop :=
  ∀ (i : Instr) (s t : State), exec i s = .next t →
    (i.mnemonic ∉ [.jmp, .jsr, .rts, .rti, .brk] → i.offset? = none →
      t.pc.toNat = (s.pc.toNat + i.length) % 65536) ∧
    (i.offset? ≠ none → i.mnemonic ≠ .bra → i.branchTaken s = false →
      t.pc.toNat = (s.pc.toNat + i.length) % 65536)

/-- T matters to seven instructions only, D to two, besides those that push PS. For an instruction that is not ADC, AND,
CMP, EOR, LDA, ORA, SBC, PHP or BRK, starting with another T gives the same next state but for T itself; for one
that is not ADC, SBC, PHP or BRK, starting with another D gives the same next state but for D itself. -/
def Obligations.TAndDMatterOnlyWhereListed : Prop :=
  (∀ (i : Instr) (s t : State) (b : Bool), i.mnemonic ∉ [.adc, .and, .cmp, .eor, .lda, .ora, .sbc, .php, .brk] →
    exec i s = .next t → ∃ f : Bool,
      exec i (s.setPs { s.ps with t := b }) = .next (t.setPs { t.ps with t := f })) ∧
  (∀ (i : Instr) (s t : State) (b : Bool), i.mnemonic ∉ [.adc, .sbc, .php, .brk] →
    exec i s = .next t → ∃ f : Bool,
      exec i (s.setPs { s.ps with d := b }) = .next (t.setPs { t.ps with d := f }))

/-- Bit 4 of a pushed PS is 1 for BRK and 0 for an interrupt; the other bits are the live flags. On a plain stack the PS
byte that BRK pushes has bit 4 = 1 and the one that interrupt entry pushes (where the acknowledge spares the frame)
has bit 4 = 0; its other seven bits are the flags before I is set. PHP pushes bit 4 = 0, and what PLP or RTI loads
from any byte is pushed again with bit 4 = 0. Bit 4 of PHP, PLP and RTI is the decision D27 of the spec (log entry
29); BRK where the BRK bug holds is log entry 13. -/
def Obligations.BreakFlagIsSetOnlyInBrksCopy : Prop :=
  (∀ (s : State) (src : IrqSource), PlainStack 3 s → AcknowledgeSparesTheFrame s src →
    (s.enterInterrupt src).byteAt (s.stackSlot 2) = s.ps.toByte false) ∧
  (∀ (s t : State), PlainStack 3 s → exec .brk s = .next t →
    t.byteAt (s.stackSlot 2) = s.ps.toByte true) ∧
  (∀ (p : PS) (b : Bool),
    (p.toByte b).toNat = 128 * p.n.toNat + 64 * p.v.toNat + 32 * p.t.toNat + 16 * b.toNat + 8 * p.d.toNat +
      4 * p.i.toNat + 2 * p.z.toNat + p.c.toNat) ∧
  (∀ (s t : State), PlainStack 1 s → exec .php s = .next t →
    (t.byteAt s.stackAddr).getLsbD 4 = false) ∧
  (∀ v : Byte, (PS.ofByte v).toByte false = v &&& 0xEF#8)

/-- An interrupt is acceptable when its request and enable bits are 1 and I is 0; BRK is exempt. With no request bit
unsettled, source k is acceptable exactly when request is 1, enable is 1 and I is 0; while I is 1 no interrupt is
entered; BRK completes with I = 1 as with I = 0. That BRK completes also where the BRK bug holds is the continuation
of log entry 13 (the spec's own model refuses there). -/
def Obligations.AcceptanceNeedsRequestEnableAndI : Prop :=
  (∀ (s : State) (k : Nat) (src : IrqSource), s.window.fresh = [] → s.window.forced = [] →
    (s.acceptable k src = true ↔ s.latch src.request = true ∧ s.latch src.enable = true ∧ s.ps.i = false)) ∧
  (∀ s : State, s.ps.i = true → s.nextInterrupt = none) ∧
  (∀ s : State, ∃ t, exec .brk s = .next t)

/-- At a boundary the highest-priority acceptable source is entered, and only an acceptable one. The boundary enters
source k exactly when k is acceptable and no source before it is; it enters none exactly when none is acceptable. A
running CPU at a quiet boundary takes that entry as its step, in place of the fetch (which hazard windows stay open
after it is log entry 16). Entry at the first boundary at which a source is acceptable is the decision D10 of the
spec (log entry 27; R313 says not to rely on it), and priority as the order of the list log entries 1 and 27. -/
def Obligations.HighestPrioritySourceIsEntered : Prop :=
  (∀ (s : State) (k : Nat) (src : IrqSource), s.nextInterrupt = some (k, src) ↔
    s.cfg.sources[k]? = some src ∧ s.acceptable k src = true ∧
      ∀ (j : Nat) (other : IrqSource), j < k → s.cfg.sources[j]? = some other → s.acceptable j other = false) ∧
  (∀ s : State, s.nextInterrupt = none ↔
    ∀ (j : Nat) (other : IrqSource), s.cfg.sources[j]? = some other → s.acceptable j other = false) ∧
  (∀ (s : State) (k : Nat) (src : IrqSource), s.run = .running → s.input = .quiet → s.nextInterrupt = some (k, src) →
    step s = .next (((s.dropInput.enterInterrupt src).setWindow (windowAfterEntry s k)).setTick (s.tick + 1)))

/-- Interrupt entry: PC and PS stacked with B = 0, I set, PC from the source's vector. Interrupt entry pushes PC_H, PC_L
and PS with bit 4 = 0, sets I and no other flag, leaves A, X and Y alone, decrements S by 3 modulo 256 and loads PC
from the vector, low byte first; the request bit is cleared or left as parameter P19 says, and every other byte is
unchanged. That the entry changes I alone is the decision D11 of the spec (log entry 28), bit 4 = 0 in the pushed
byte is log entry 29, a vector of two bytes, low byte first, the decision D21 (log entry 34), and the wrap of S
inside its page D5 (log entry 32). -/
def Obligations.InterruptEntrySavesPcAndPs : Prop :=
  ∀ (s : State) (src : IrqSource), ∃ t s1 s2, t = s.enterInterrupt src ∧
    s1 = s.push (hiByte s.pc) ∧ s2 = s1.push (loByte s.pc) ∧
    t.sp = s.sp - 3#8 ∧ t.ps = { s.ps with i := true } ∧ t.a = s.a ∧ t.x = s.x ∧ t.y = s.y ∧ Steady s t ∧
    t.pc.toNat = 256 * (t.read .vectorHi (src.vector + 1#16)).toNat + (t.read .vectorLo src.vector).toNat ∧
    (s.cfg.irqAck = .leave →
      StoresThree s t s.stackAddr (hiByte s.pc) s1.stackAddr (loByte s.pc) s2.stackAddr (s.ps.toByte false)) ∧
    (s.cfg.irqAck = .clear → t.latch src.request = false ∧
      ∀ b : Addr, b ≠ src.request.addr → t.byteAt b =
        storedByte s s2.stackAddr (s.ps.toByte false) b (storedByte s s1.stackAddr (loByte s.pc) b
          (storedByte s s.stackAddr (hiByte s.pc) b (s.byteAt b))))

/-- RTI after interrupt entry or BRK restores PC, PS and S. On a plain stack, RTI right after interrupt entry (whose
acknowledge spares the frame) continues at the interrupted PC with PS, S, A, X and Y as they were; RTI right after
BRK continues at the address BRK stacked, with PS, S, A, X and Y as they were before it. The stack may be on a fixed
page or on the one that the Stack Page Selection Bit gives. BRK where the BRK bug holds is the continuation of log
entry 13. That the entry changes I alone is the decision D11 of the spec (log entry 28), the discarded bit 4 D27
(log entry 29), the wrap of S inside its page D5 (log entry 32). -/
def Obligations.RtiUndoesExceptionEntry : Prop :=
  (∀ (s : State) (src : IrqSource), PlainStack 3 s → AcknowledgeSparesTheFrame s src →
    ∃ t, exec .rti (s.enterInterrupt src) = .next t ∧ t.pc = s.pc ∧ t.ps = s.ps ∧ SameRegs s t) ∧
  (∀ (s : State), PlainStack 3 s → ∃ t u, exec .brk s = .next t ∧ exec .rti t = .next u ∧
    u.pc = s.pc + (if s.cfg.brkOffset = .one then 1#16 else 2#16) ∧ u.ps = s.ps ∧ SameRegs s u)

/-- RTS right after JSR continues after the JSR with S restored. On a plain stack, for every form of JSR, RTS right
after it continues at the instruction after the JSR, with S, A, X, Y and PS as before. The stack may be on a fixed
page or on the one that the Stack Page Selection Bit gives. That RTS adds 1 is the decision D32 of the spec (log
entry 34), and the wrap of S inside its page D5 (log entry 32). -/
def Obligations.RtsUndoesJsr : Prop :=
  ∀ (i : Instr) (s : State), i.mnemonic = .jsr → PlainStack 2 s → ∃ t u, exec i s = .next t ∧ exec .rts t = .next u ∧
    u.pc = s.pc + BitVec.ofNat 16 i.length ∧ u.ps = s.ps ∧ SameRegs s u

/-- PLP opens a one-instruction window; NOP keeps the pulled flags, and unwritten flags come back after any other. Only
PLP opens the window. A NOP in it leaves PS as it was; after any other instruction in it every flag the table does
not list for that instruction has the pulled value (what the instruction itself sees is free); on a part that needs
no NOP, or outside the window, PS after the step is what exec gives. SEC, CLC and CLD right after a decimal ADC or
SBC are the other window and excepted. That the unwritten flags come back, and that the window ends after one
instruction, is log entry 14 (R353 prefers refusal and fixes nothing after the window). (s.dropInput is s without
the entry of the script that the step takes.) Many rows of the flag table are general knowledge in the spec (log
entry 25). -/
def Obligations.PlpWindowLeavesThePulledFlags : Prop :=
  ∀ (s t : State) (i : Instr), RunsInstr s i → step s = .next t →
    (t.window.afterPlp = true ↔ i = .plp) ∧
    (s.window.afterDecimal = false ∨ i.mnemonic ∉ [.sec, .clc, .cld] →
      (i = .nop → t.ps = s.ps) ∧
      (i.mnemonic.flagsWritten.n = false → t.ps.n = s.ps.n) ∧ (i.mnemonic.flagsWritten.v = false → t.ps.v = s.ps.v) ∧
      (i.mnemonic.flagsWritten.t = false → t.ps.t = s.ps.t) ∧ (i.mnemonic.flagsWritten.d = false → t.ps.d = s.ps.d) ∧
      (i.mnemonic.flagsWritten.i = false → t.ps.i = s.ps.i) ∧ (i.mnemonic.flagsWritten.z = false → t.ps.z = s.ps.z) ∧
      (i.mnemonic.flagsWritten.c = false → t.ps.c = s.ps.c) ∧
      (s.cfg.part.plpNeedsNop = false ∨ s.window.afterPlp = false → ∃ u, exec i s.dropInput = .next u ∧ t.ps = u.ps))

/-- A decimal ADC or SBC opens a one-instruction window in which SEC, CLC and CLD leave C and D open. A step opens the
window exactly when it runs ADC or SBC with D = 1; SEC, CLC or CLD in it still advances PC and keeps N, V, T, I and
Z (C and D are free); outside the PLP window every other instruction in it gives the flags that exec gives. That
SEC, CLC and CLD run there with C and D free and the rest kept is log entry 17 (R356 prefers refusal). (s.dropInput
is s without the entry of the script that the step takes.) -/
def Obligations.DecimalWindowAffectsOnlyCAndD : Prop :=
  ∀ (s t : State) (i : Instr), RunsInstr s i → step s = .next t → s.window.afterPlp = false →
    (t.window.afterDecimal = true ↔ (i.mnemonic = .adc ∨ i.mnemonic = .sbc) ∧ s.ps.d = true) ∧
    (i.mnemonic ∈ [.sec, .clc, .cld] → PastInstr i s t ∧ SameRegs s t ∧ SameMemory s t ∧
      t.ps.n = s.ps.n ∧ t.ps.v = s.ps.v ∧ t.ps.t = s.ps.t ∧ t.ps.i = s.ps.i ∧ t.ps.z = s.ps.z) ∧
    (i.mnemonic ∉ [.sec, .clc, .cld] → ∃ u, exec i s.dropInput = .next u ∧ t.ps = u.ps)

/-- A request bit that an instruction changed is unsettled for exactly the next instruction. After an instruction step
the unsettled request bits are exactly those whose value it changed (R354 speaks of the bits of a written byte; that
a bit written with the value it had is settled is log entry 15). A read of RAM or ROM gives the stored byte in every
bit that is not unsettled, and a read of any address every control bit held there that is not unsettled (what else
an I/O or unmapped address reads as is log entry 21). -/
def Obligations.WrittenRequestBitsSettleAfterOneInstruction : Prop :=
  (∀ (s t : State) (i : Instr), RunsInstr s i → step s = .next t →
    ∀ (k : Nat) (src : IrqSource), s.cfg.sources[k]? = some src →
      (k ∈ t.window.fresh ↔ s.latch src.request ≠ t.latch src.request)) ∧
  (∀ (s : State) (acc : Access) (a : Addr) (j : Nat), j < 8 →
    ((mapAt s.cfg a = .ram ∨ ∃ w, mapAt s.cfg a = .rom w) → (s.freshMask a).getLsbD j = false →
      (s.read acc a).getLsbD j = (s.byteAt a).getLsbD j) ∧
    ((s.freshMask (locate s.cfg a)).getLsbD j = false →
      (∃ l ∈ controlBits s.cfg, l.addr = locate s.cfg a ∧ l.bit.toNat = j) →
      (s.read acc a).getLsbD j = (s.byteAt (locate s.cfg a)).getLsbD j))

/-- One instruction that clears a request bit and sets its enable bit, with I = 0, leaves the interrupt acceptable. If
an instruction step clears the request bit of a source and sets its enable bit from 0, and I is 0 after it, the
source is acceptable at the next boundary although its request bit is 0; a quiet boundary of a running CPU enters an
interrupt, and one at which recognition is postponed keeps the source forced. That a forced source stays so only
while recognition is postponed is log entry 15. That a quiet boundary enters at once is prompt entry, the decision
D10 of the spec (log entry 27; the source with the higher priority first, by the order of the list, is log entries 1
and 27), that the entry changes I alone is the decision D11 (log entry 28), and the script that makes a boundary
quiet or postponed is log entry 2. -/
def Obligations.ClearingWithEnablingStillInterrupts : Prop :=
  ∀ (s t : State) (i : Instr) (k : Nat) (src : IrqSource), RunsInstr s i → step s = .next t →
    s.cfg.sources[k]? = some src → s.latch src.request = true → t.latch src.request = false →
    s.latch src.enable = false → t.latch src.enable = true → t.ps.i = false →
    t.acceptable k src = true ∧
    (∃ j other, t.nextInterrupt = some (j, other) ∧ j ≤ k ∧
      (t.run = .running → t.input = .quiet → ∃ u, step t = .next u ∧ u.ps = { t.ps with i := true })) ∧
    (t.input.postpone = true → t.input.reset = false → ∀ u, step t = .next u → k ∈ u.window.forced)

/-- A device request to an enabled source is entered at the boundary where it is made, unless postponed. If the
environment sets the request bit of source k at a boundary of a running CPU, with k enabled, and there is no reset:
with I = 0 and nothing postponed the step enters an interrupt, of k or of a source before it; with I = 1, or with
recognition postponed, the request bit is 1 and the step runs the instruction at PC, which alone can change the bit,
and a postponed forced source stays forced. The script as the environment is log entry 2, that the request settles
the bit at 1 log entry 15, prompt entry log entry 27 (R313 says not to rely on it; the postponed boundary is the
other case). -/
def Obligations.DeviceRequestIsTakenAtTheBoundary : Prop :=
  ∀ (s b : State) (k : Nat) (src : IrqSource), s.run = .running → s.input.reset = false → k ∈ s.input.requests →
    s.cfg.sources[k]? = some src → s.latch src.enable = true → b = s.atBoundary →
    (s.ps.i = false → s.input.postpone = false → ∃ j other,
      step s = .next ((b.enterInterrupt other).setWindow (windowAfterEntry b j)).tickOn ∧
      s.cfg.sources[j]? = some other ∧ j ≤ k) ∧
    (s.ps.i = true ∨ s.input.postpone = true → b.latch src.request = true ∧
      ∀ (i : Instr) (t : State), b.fetch = .ok i → exec i (b.prepare i) = .next t → ∃ u : State,
        step s = .next u ∧ u = b.settle s.input.postpone i t ∧ u.latch src.request = t.latch src.request ∧
        (s.input.postpone = true → ∀ j ∈ s.window.forced, j ∈ u.window.forced))
end

