-- ==== Sys2Proof/Laws/State.lean ====
section
/-! SUPPORT. One lemma per field per update of State, each true by definition, so that no proof unfolds a record
update. -/

namespace Sys2Proof.Machine

@[simp] theorem State.setA_a (s : State) (v : Byte) : (s.setA v).a = v := rfl
@[simp] theorem State.setA_x (s : State) (v : Byte) : (s.setA v).x = s.x := rfl
@[simp] theorem State.setA_y (s : State) (v : Byte) : (s.setA v).y = s.y := rfl
@[simp] theorem State.setA_sp (s : State) (v : Byte) : (s.setA v).sp = s.sp := rfl
@[simp] theorem State.setA_pc (s : State) (v : Byte) : (s.setA v).pc = s.pc := rfl
@[simp] theorem State.setA_ps (s : State) (v : Byte) : (s.setA v).ps = s.ps := rfl
@[simp] theorem State.setA_mem (s : State) (v : Byte) : (s.setA v).mem = s.mem := rfl
@[simp] theorem State.setA_run (s : State) (v : Byte) : (s.setA v).run = s.run := rfl
@[simp] theorem State.setA_xoutf (s : State) (v : Byte) : (s.setA v).xoutf = s.xoutf := rfl
@[simp] theorem State.setA_window (s : State) (v : Byte) : (s.setA v).window = s.window := rfl
@[simp] theorem State.setA_tick (s : State) (v : Byte) : (s.setA v).tick = s.tick := rfl
@[simp] theorem State.setA_script (s : State) (v : Byte) : (s.setA v).script = s.script := rfl
@[simp] theorem State.setA_cfg (s : State) (v : Byte) : (s.setA v).cfg = s.cfg := rfl

@[simp] theorem State.setX_a (s : State) (v : Byte) : (s.setX v).a = s.a := rfl
@[simp] theorem State.setX_x (s : State) (v : Byte) : (s.setX v).x = v := rfl
@[simp] theorem State.setX_y (s : State) (v : Byte) : (s.setX v).y = s.y := rfl
@[simp] theorem State.setX_sp (s : State) (v : Byte) : (s.setX v).sp = s.sp := rfl
@[simp] theorem State.setX_pc (s : State) (v : Byte) : (s.setX v).pc = s.pc := rfl
@[simp] theorem State.setX_ps (s : State) (v : Byte) : (s.setX v).ps = s.ps := rfl
@[simp] theorem State.setX_mem (s : State) (v : Byte) : (s.setX v).mem = s.mem := rfl
@[simp] theorem State.setX_run (s : State) (v : Byte) : (s.setX v).run = s.run := rfl
@[simp] theorem State.setX_xoutf (s : State) (v : Byte) : (s.setX v).xoutf = s.xoutf := rfl
@[simp] theorem State.setX_window (s : State) (v : Byte) : (s.setX v).window = s.window := rfl
@[simp] theorem State.setX_tick (s : State) (v : Byte) : (s.setX v).tick = s.tick := rfl
@[simp] theorem State.setX_script (s : State) (v : Byte) : (s.setX v).script = s.script := rfl
@[simp] theorem State.setX_cfg (s : State) (v : Byte) : (s.setX v).cfg = s.cfg := rfl

@[simp] theorem State.setY_a (s : State) (v : Byte) : (s.setY v).a = s.a := rfl
@[simp] theorem State.setY_x (s : State) (v : Byte) : (s.setY v).x = s.x := rfl
@[simp] theorem State.setY_y (s : State) (v : Byte) : (s.setY v).y = v := rfl
@[simp] theorem State.setY_sp (s : State) (v : Byte) : (s.setY v).sp = s.sp := rfl
@[simp] theorem State.setY_pc (s : State) (v : Byte) : (s.setY v).pc = s.pc := rfl
@[simp] theorem State.setY_ps (s : State) (v : Byte) : (s.setY v).ps = s.ps := rfl
@[simp] theorem State.setY_mem (s : State) (v : Byte) : (s.setY v).mem = s.mem := rfl
@[simp] theorem State.setY_run (s : State) (v : Byte) : (s.setY v).run = s.run := rfl
@[simp] theorem State.setY_xoutf (s : State) (v : Byte) : (s.setY v).xoutf = s.xoutf := rfl
@[simp] theorem State.setY_window (s : State) (v : Byte) : (s.setY v).window = s.window := rfl
@[simp] theorem State.setY_tick (s : State) (v : Byte) : (s.setY v).tick = s.tick := rfl
@[simp] theorem State.setY_script (s : State) (v : Byte) : (s.setY v).script = s.script := rfl
@[simp] theorem State.setY_cfg (s : State) (v : Byte) : (s.setY v).cfg = s.cfg := rfl

@[simp] theorem State.setSp_a (s : State) (v : Byte) : (s.setSp v).a = s.a := rfl
@[simp] theorem State.setSp_x (s : State) (v : Byte) : (s.setSp v).x = s.x := rfl
@[simp] theorem State.setSp_y (s : State) (v : Byte) : (s.setSp v).y = s.y := rfl
@[simp] theorem State.setSp_sp (s : State) (v : Byte) : (s.setSp v).sp = v := rfl
@[simp] theorem State.setSp_pc (s : State) (v : Byte) : (s.setSp v).pc = s.pc := rfl
@[simp] theorem State.setSp_ps (s : State) (v : Byte) : (s.setSp v).ps = s.ps := rfl
@[simp] theorem State.setSp_mem (s : State) (v : Byte) : (s.setSp v).mem = s.mem := rfl
@[simp] theorem State.setSp_run (s : State) (v : Byte) : (s.setSp v).run = s.run := rfl
@[simp] theorem State.setSp_xoutf (s : State) (v : Byte) : (s.setSp v).xoutf = s.xoutf := rfl
@[simp] theorem State.setSp_window (s : State) (v : Byte) : (s.setSp v).window = s.window := rfl
@[simp] theorem State.setSp_tick (s : State) (v : Byte) : (s.setSp v).tick = s.tick := rfl
@[simp] theorem State.setSp_script (s : State) (v : Byte) : (s.setSp v).script = s.script := rfl
@[simp] theorem State.setSp_cfg (s : State) (v : Byte) : (s.setSp v).cfg = s.cfg := rfl

@[simp] theorem State.setPc_a (s : State) (v : Addr) : (s.setPc v).a = s.a := rfl
@[simp] theorem State.setPc_x (s : State) (v : Addr) : (s.setPc v).x = s.x := rfl
@[simp] theorem State.setPc_y (s : State) (v : Addr) : (s.setPc v).y = s.y := rfl
@[simp] theorem State.setPc_sp (s : State) (v : Addr) : (s.setPc v).sp = s.sp := rfl
@[simp] theorem State.setPc_pc (s : State) (v : Addr) : (s.setPc v).pc = v := rfl
@[simp] theorem State.setPc_ps (s : State) (v : Addr) : (s.setPc v).ps = s.ps := rfl
@[simp] theorem State.setPc_mem (s : State) (v : Addr) : (s.setPc v).mem = s.mem := rfl
@[simp] theorem State.setPc_run (s : State) (v : Addr) : (s.setPc v).run = s.run := rfl
@[simp] theorem State.setPc_xoutf (s : State) (v : Addr) : (s.setPc v).xoutf = s.xoutf := rfl
@[simp] theorem State.setPc_window (s : State) (v : Addr) : (s.setPc v).window = s.window := rfl
@[simp] theorem State.setPc_tick (s : State) (v : Addr) : (s.setPc v).tick = s.tick := rfl
@[simp] theorem State.setPc_script (s : State) (v : Addr) : (s.setPc v).script = s.script := rfl
@[simp] theorem State.setPc_cfg (s : State) (v : Addr) : (s.setPc v).cfg = s.cfg := rfl

@[simp] theorem State.setPs_a (s : State) (v : PS) : (s.setPs v).a = s.a := rfl
@[simp] theorem State.setPs_x (s : State) (v : PS) : (s.setPs v).x = s.x := rfl
@[simp] theorem State.setPs_y (s : State) (v : PS) : (s.setPs v).y = s.y := rfl
@[simp] theorem State.setPs_sp (s : State) (v : PS) : (s.setPs v).sp = s.sp := rfl
@[simp] theorem State.setPs_pc (s : State) (v : PS) : (s.setPs v).pc = s.pc := rfl
@[simp] theorem State.setPs_ps (s : State) (v : PS) : (s.setPs v).ps = v := rfl
@[simp] theorem State.setPs_mem (s : State) (v : PS) : (s.setPs v).mem = s.mem := rfl
@[simp] theorem State.setPs_run (s : State) (v : PS) : (s.setPs v).run = s.run := rfl
@[simp] theorem State.setPs_xoutf (s : State) (v : PS) : (s.setPs v).xoutf = s.xoutf := rfl
@[simp] theorem State.setPs_window (s : State) (v : PS) : (s.setPs v).window = s.window := rfl
@[simp] theorem State.setPs_tick (s : State) (v : PS) : (s.setPs v).tick = s.tick := rfl
@[simp] theorem State.setPs_script (s : State) (v : PS) : (s.setPs v).script = s.script := rfl
@[simp] theorem State.setPs_cfg (s : State) (v : PS) : (s.setPs v).cfg = s.cfg := rfl

@[simp] theorem State.setMem_a (s : State) (v : Memory) : (s.setMem v).a = s.a := rfl
@[simp] theorem State.setMem_x (s : State) (v : Memory) : (s.setMem v).x = s.x := rfl
@[simp] theorem State.setMem_y (s : State) (v : Memory) : (s.setMem v).y = s.y := rfl
@[simp] theorem State.setMem_sp (s : State) (v : Memory) : (s.setMem v).sp = s.sp := rfl
@[simp] theorem State.setMem_pc (s : State) (v : Memory) : (s.setMem v).pc = s.pc := rfl
@[simp] theorem State.setMem_ps (s : State) (v : Memory) : (s.setMem v).ps = s.ps := rfl
@[simp] theorem State.setMem_mem (s : State) (v : Memory) : (s.setMem v).mem = v := rfl
@[simp] theorem State.setMem_run (s : State) (v : Memory) : (s.setMem v).run = s.run := rfl
@[simp] theorem State.setMem_xoutf (s : State) (v : Memory) : (s.setMem v).xoutf = s.xoutf := rfl
@[simp] theorem State.setMem_window (s : State) (v : Memory) : (s.setMem v).window = s.window := rfl
@[simp] theorem State.setMem_tick (s : State) (v : Memory) : (s.setMem v).tick = s.tick := rfl
@[simp] theorem State.setMem_script (s : State) (v : Memory) : (s.setMem v).script = s.script := rfl
@[simp] theorem State.setMem_cfg (s : State) (v : Memory) : (s.setMem v).cfg = s.cfg := rfl

@[simp] theorem State.setRun_a (s : State) (v : RunState) : (s.setRun v).a = s.a := rfl
@[simp] theorem State.setRun_x (s : State) (v : RunState) : (s.setRun v).x = s.x := rfl
@[simp] theorem State.setRun_y (s : State) (v : RunState) : (s.setRun v).y = s.y := rfl
@[simp] theorem State.setRun_sp (s : State) (v : RunState) : (s.setRun v).sp = s.sp := rfl
@[simp] theorem State.setRun_pc (s : State) (v : RunState) : (s.setRun v).pc = s.pc := rfl
@[simp] theorem State.setRun_ps (s : State) (v : RunState) : (s.setRun v).ps = s.ps := rfl
@[simp] theorem State.setRun_mem (s : State) (v : RunState) : (s.setRun v).mem = s.mem := rfl
@[simp] theorem State.setRun_run (s : State) (v : RunState) : (s.setRun v).run = v := rfl
@[simp] theorem State.setRun_xoutf (s : State) (v : RunState) : (s.setRun v).xoutf = s.xoutf := rfl
@[simp] theorem State.setRun_window (s : State) (v : RunState) : (s.setRun v).window = s.window := rfl
@[simp] theorem State.setRun_tick (s : State) (v : RunState) : (s.setRun v).tick = s.tick := rfl
@[simp] theorem State.setRun_script (s : State) (v : RunState) : (s.setRun v).script = s.script := rfl
@[simp] theorem State.setRun_cfg (s : State) (v : RunState) : (s.setRun v).cfg = s.cfg := rfl

@[simp] theorem State.setXoutf_a (s : State) (v : Bool) : (s.setXoutf v).a = s.a := rfl
@[simp] theorem State.setXoutf_x (s : State) (v : Bool) : (s.setXoutf v).x = s.x := rfl
@[simp] theorem State.setXoutf_y (s : State) (v : Bool) : (s.setXoutf v).y = s.y := rfl
@[simp] theorem State.setXoutf_sp (s : State) (v : Bool) : (s.setXoutf v).sp = s.sp := rfl
@[simp] theorem State.setXoutf_pc (s : State) (v : Bool) : (s.setXoutf v).pc = s.pc := rfl
@[simp] theorem State.setXoutf_ps (s : State) (v : Bool) : (s.setXoutf v).ps = s.ps := rfl
@[simp] theorem State.setXoutf_mem (s : State) (v : Bool) : (s.setXoutf v).mem = s.mem := rfl
@[simp] theorem State.setXoutf_run (s : State) (v : Bool) : (s.setXoutf v).run = s.run := rfl
@[simp] theorem State.setXoutf_xoutf (s : State) (v : Bool) : (s.setXoutf v).xoutf = v := rfl
@[simp] theorem State.setXoutf_window (s : State) (v : Bool) : (s.setXoutf v).window = s.window := rfl
@[simp] theorem State.setXoutf_tick (s : State) (v : Bool) : (s.setXoutf v).tick = s.tick := rfl
@[simp] theorem State.setXoutf_script (s : State) (v : Bool) : (s.setXoutf v).script = s.script := rfl
@[simp] theorem State.setXoutf_cfg (s : State) (v : Bool) : (s.setXoutf v).cfg = s.cfg := rfl

@[simp] theorem State.setWindow_a (s : State) (v : Window) : (s.setWindow v).a = s.a := rfl
@[simp] theorem State.setWindow_x (s : State) (v : Window) : (s.setWindow v).x = s.x := rfl
@[simp] theorem State.setWindow_y (s : State) (v : Window) : (s.setWindow v).y = s.y := rfl
@[simp] theorem State.setWindow_sp (s : State) (v : Window) : (s.setWindow v).sp = s.sp := rfl
@[simp] theorem State.setWindow_pc (s : State) (v : Window) : (s.setWindow v).pc = s.pc := rfl
@[simp] theorem State.setWindow_ps (s : State) (v : Window) : (s.setWindow v).ps = s.ps := rfl
@[simp] theorem State.setWindow_mem (s : State) (v : Window) : (s.setWindow v).mem = s.mem := rfl
@[simp] theorem State.setWindow_run (s : State) (v : Window) : (s.setWindow v).run = s.run := rfl
@[simp] theorem State.setWindow_xoutf (s : State) (v : Window) : (s.setWindow v).xoutf = s.xoutf := rfl
@[simp] theorem State.setWindow_window (s : State) (v : Window) : (s.setWindow v).window = v := rfl
@[simp] theorem State.setWindow_tick (s : State) (v : Window) : (s.setWindow v).tick = s.tick := rfl
@[simp] theorem State.setWindow_script (s : State) (v : Window) : (s.setWindow v).script = s.script := rfl
@[simp] theorem State.setWindow_cfg (s : State) (v : Window) : (s.setWindow v).cfg = s.cfg := rfl

@[simp] theorem State.setTick_a (s : State) (v : Nat) : (s.setTick v).a = s.a := rfl
@[simp] theorem State.setTick_x (s : State) (v : Nat) : (s.setTick v).x = s.x := rfl
@[simp] theorem State.setTick_y (s : State) (v : Nat) : (s.setTick v).y = s.y := rfl
@[simp] theorem State.setTick_sp (s : State) (v : Nat) : (s.setTick v).sp = s.sp := rfl
@[simp] theorem State.setTick_pc (s : State) (v : Nat) : (s.setTick v).pc = s.pc := rfl
@[simp] theorem State.setTick_ps (s : State) (v : Nat) : (s.setTick v).ps = s.ps := rfl
@[simp] theorem State.setTick_mem (s : State) (v : Nat) : (s.setTick v).mem = s.mem := rfl
@[simp] theorem State.setTick_run (s : State) (v : Nat) : (s.setTick v).run = s.run := rfl
@[simp] theorem State.setTick_xoutf (s : State) (v : Nat) : (s.setTick v).xoutf = s.xoutf := rfl
@[simp] theorem State.setTick_window (s : State) (v : Nat) : (s.setTick v).window = s.window := rfl
@[simp] theorem State.setTick_tick (s : State) (v : Nat) : (s.setTick v).tick = v := rfl
@[simp] theorem State.setTick_script (s : State) (v : Nat) : (s.setTick v).script = s.script := rfl
@[simp] theorem State.setTick_cfg (s : State) (v : Nat) : (s.setTick v).cfg = s.cfg := rfl

@[simp] theorem State.setScript_a (s : State) (v : List EnvInput) : (s.setScript v).a = s.a := rfl
@[simp] theorem State.setScript_x (s : State) (v : List EnvInput) : (s.setScript v).x = s.x := rfl
@[simp] theorem State.setScript_y (s : State) (v : List EnvInput) : (s.setScript v).y = s.y := rfl
@[simp] theorem State.setScript_sp (s : State) (v : List EnvInput) : (s.setScript v).sp = s.sp := rfl
@[simp] theorem State.setScript_pc (s : State) (v : List EnvInput) : (s.setScript v).pc = s.pc := rfl
@[simp] theorem State.setScript_ps (s : State) (v : List EnvInput) : (s.setScript v).ps = s.ps := rfl
@[simp] theorem State.setScript_mem (s : State) (v : List EnvInput) : (s.setScript v).mem = s.mem := rfl
@[simp] theorem State.setScript_run (s : State) (v : List EnvInput) : (s.setScript v).run = s.run := rfl
@[simp] theorem State.setScript_xoutf (s : State) (v : List EnvInput) : (s.setScript v).xoutf = s.xoutf := rfl
@[simp] theorem State.setScript_window (s : State) (v : List EnvInput) : (s.setScript v).window = s.window := rfl
@[simp] theorem State.setScript_tick (s : State) (v : List EnvInput) : (s.setScript v).tick = s.tick := rfl
@[simp] theorem State.setScript_script (s : State) (v : List EnvInput) : (s.setScript v).script = v := rfl
@[simp] theorem State.setScript_cfg (s : State) (v : List EnvInput) : (s.setScript v).cfg = s.cfg := rfl

@[simp] theorem State.setCfg_a (s : State) (v : Config) : (s.setCfg v).a = s.a := rfl
@[simp] theorem State.setCfg_x (s : State) (v : Config) : (s.setCfg v).x = s.x := rfl
@[simp] theorem State.setCfg_y (s : State) (v : Config) : (s.setCfg v).y = s.y := rfl
@[simp] theorem State.setCfg_sp (s : State) (v : Config) : (s.setCfg v).sp = s.sp := rfl
@[simp] theorem State.setCfg_pc (s : State) (v : Config) : (s.setCfg v).pc = s.pc := rfl
@[simp] theorem State.setCfg_ps (s : State) (v : Config) : (s.setCfg v).ps = s.ps := rfl
@[simp] theorem State.setCfg_mem (s : State) (v : Config) : (s.setCfg v).mem = s.mem := rfl
@[simp] theorem State.setCfg_run (s : State) (v : Config) : (s.setCfg v).run = s.run := rfl
@[simp] theorem State.setCfg_xoutf (s : State) (v : Config) : (s.setCfg v).xoutf = s.xoutf := rfl
@[simp] theorem State.setCfg_window (s : State) (v : Config) : (s.setCfg v).window = s.window := rfl
@[simp] theorem State.setCfg_tick (s : State) (v : Config) : (s.setCfg v).tick = s.tick := rfl
@[simp] theorem State.setCfg_script (s : State) (v : Config) : (s.setCfg v).script = s.script := rfl
@[simp] theorem State.setCfg_cfg (s : State) (v : Config) : (s.setCfg v).cfg = v := rfl

/-- Two states with the same fields are the same state. -/
theorem State.eq_of_fields {s t : State} (ha : s.a = t.a) (hx : s.x = t.x) (hy : s.y = t.y) (hsp : s.sp = t.sp)
    (hpc : s.pc = t.pc) (hps : s.ps = t.ps) (hmem : s.mem = t.mem) (hrun : s.run = t.run)
    (hxoutf : s.xoutf = t.xoutf) (hwindow : s.window = t.window) (htick : s.tick = t.tick)
    (hscript : s.script = t.script) (hcfg : s.cfg = t.cfg) : s = t := by
  cases s; cases t; simp_all

end Sys2Proof.Machine
end

