-- ==== Sys2Proof/Laws/Frames.lean ====
section
/-! SUPPORT. The frame of every shared operation: one simp lemma for each field of State that it leaves alone. -/

namespace Sys2Proof.Machine

@[simp] theorem State.advance_a (s : State) (n : Nat) : (s.advance n).a = s.a := rfl
@[simp] theorem State.advance_x (s : State) (n : Nat) : (s.advance n).x = s.x := rfl
@[simp] theorem State.advance_y (s : State) (n : Nat) : (s.advance n).y = s.y := rfl
@[simp] theorem State.advance_sp (s : State) (n : Nat) : (s.advance n).sp = s.sp := rfl
@[simp] theorem State.advance_ps (s : State) (n : Nat) : (s.advance n).ps = s.ps := rfl
@[simp] theorem State.advance_mem (s : State) (n : Nat) : (s.advance n).mem = s.mem := rfl
@[simp] theorem State.advance_run (s : State) (n : Nat) : (s.advance n).run = s.run := rfl
@[simp] theorem State.advance_xoutf (s : State) (n : Nat) : (s.advance n).xoutf = s.xoutf := rfl
@[simp] theorem State.advance_window (s : State) (n : Nat) : (s.advance n).window = s.window := rfl
@[simp] theorem State.advance_tick (s : State) (n : Nat) : (s.advance n).tick = s.tick := rfl
@[simp] theorem State.advance_script (s : State) (n : Nat) : (s.advance n).script = s.script := rfl
@[simp] theorem State.advance_cfg (s : State) (n : Nat) : (s.advance n).cfg = s.cfg := rfl

@[simp] theorem State.branch_a (s : State) (n : Nat) (k : Bool) (r : Byte) : (s.branch n k r).a = s.a := rfl
@[simp] theorem State.branch_x (s : State) (n : Nat) (k : Bool) (r : Byte) : (s.branch n k r).x = s.x := rfl
@[simp] theorem State.branch_y (s : State) (n : Nat) (k : Bool) (r : Byte) : (s.branch n k r).y = s.y := rfl
@[simp] theorem State.branch_sp (s : State) (n : Nat) (k : Bool) (r : Byte) : (s.branch n k r).sp = s.sp := rfl
@[simp] theorem State.branch_ps (s : State) (n : Nat) (k : Bool) (r : Byte) : (s.branch n k r).ps = s.ps := rfl
@[simp] theorem State.branch_mem (s : State) (n : Nat) (k : Bool) (r : Byte) : (s.branch n k r).mem = s.mem := rfl
@[simp] theorem State.branch_run (s : State) (n : Nat) (k : Bool) (r : Byte) : (s.branch n k r).run = s.run := rfl
@[simp] theorem State.branch_xoutf (s : State) (n : Nat) (k : Bool) (r : Byte) : (s.branch n k r).xoutf = s.xoutf := rfl
@[simp] theorem State.branch_window (s : State) (n : Nat) (k : Bool) (r : Byte) : (s.branch n k r).window = s.window := rfl
@[simp] theorem State.branch_tick (s : State) (n : Nat) (k : Bool) (r : Byte) : (s.branch n k r).tick = s.tick := rfl
@[simp] theorem State.branch_script (s : State) (n : Nat) (k : Bool) (r : Byte) : (s.branch n k r).script = s.script := rfl
@[simp] theorem State.branch_cfg (s : State) (n : Nat) (k : Bool) (r : Byte) : (s.branch n k r).cfg = s.cfg := rfl

@[simp] theorem State.setLatch_a (s : State) (l : BitLoc) (v : Bool) : (s.setLatch l v).a = s.a := rfl
@[simp] theorem State.setLatch_x (s : State) (l : BitLoc) (v : Bool) : (s.setLatch l v).x = s.x := rfl
@[simp] theorem State.setLatch_y (s : State) (l : BitLoc) (v : Bool) : (s.setLatch l v).y = s.y := rfl
@[simp] theorem State.setLatch_sp (s : State) (l : BitLoc) (v : Bool) : (s.setLatch l v).sp = s.sp := rfl
@[simp] theorem State.setLatch_pc (s : State) (l : BitLoc) (v : Bool) : (s.setLatch l v).pc = s.pc := rfl
@[simp] theorem State.setLatch_ps (s : State) (l : BitLoc) (v : Bool) : (s.setLatch l v).ps = s.ps := rfl
@[simp] theorem State.setLatch_run (s : State) (l : BitLoc) (v : Bool) : (s.setLatch l v).run = s.run := rfl
@[simp] theorem State.setLatch_xoutf (s : State) (l : BitLoc) (v : Bool) : (s.setLatch l v).xoutf = s.xoutf := rfl
@[simp] theorem State.setLatch_window (s : State) (l : BitLoc) (v : Bool) : (s.setLatch l v).window = s.window := rfl
@[simp] theorem State.setLatch_tick (s : State) (l : BitLoc) (v : Bool) : (s.setLatch l v).tick = s.tick := rfl
@[simp] theorem State.setLatch_script (s : State) (l : BitLoc) (v : Bool) : (s.setLatch l v).script = s.script := rfl
@[simp] theorem State.setLatch_cfg (s : State) (l : BitLoc) (v : Bool) : (s.setLatch l v).cfg = s.cfg := rfl

@[simp] theorem State.write_a (s : State) (a : Addr) (v : Byte) : (s.write a v).a = s.a := by unfold State.write; split <;> rfl
@[simp] theorem State.write_x (s : State) (a : Addr) (v : Byte) : (s.write a v).x = s.x := by unfold State.write; split <;> rfl
@[simp] theorem State.write_y (s : State) (a : Addr) (v : Byte) : (s.write a v).y = s.y := by unfold State.write; split <;> rfl
@[simp] theorem State.write_sp (s : State) (a : Addr) (v : Byte) : (s.write a v).sp = s.sp := by unfold State.write; split <;> rfl
@[simp] theorem State.write_pc (s : State) (a : Addr) (v : Byte) : (s.write a v).pc = s.pc := by unfold State.write; split <;> rfl
@[simp] theorem State.write_ps (s : State) (a : Addr) (v : Byte) : (s.write a v).ps = s.ps := by unfold State.write; split <;> rfl
@[simp] theorem State.write_run (s : State) (a : Addr) (v : Byte) : (s.write a v).run = s.run := by unfold State.write; split <;> rfl
@[simp] theorem State.write_xoutf (s : State) (a : Addr) (v : Byte) : (s.write a v).xoutf = s.xoutf := by unfold State.write; split <;> rfl
@[simp] theorem State.write_window (s : State) (a : Addr) (v : Byte) : (s.write a v).window = s.window := by unfold State.write; split <;> rfl
@[simp] theorem State.write_tick (s : State) (a : Addr) (v : Byte) : (s.write a v).tick = s.tick := by unfold State.write; split <;> rfl
@[simp] theorem State.write_script (s : State) (a : Addr) (v : Byte) : (s.write a v).script = s.script := by unfold State.write; split <;> rfl
@[simp] theorem State.write_cfg (s : State) (a : Addr) (v : Byte) : (s.write a v).cfg = s.cfg := by unfold State.write; split <;> rfl

@[simp] theorem State.push_a (s : State) (v : Byte) : (s.push v).a = s.a := by simp [State.push]
@[simp] theorem State.push_x (s : State) (v : Byte) : (s.push v).x = s.x := by simp [State.push]
@[simp] theorem State.push_y (s : State) (v : Byte) : (s.push v).y = s.y := by simp [State.push]
@[simp] theorem State.push_pc (s : State) (v : Byte) : (s.push v).pc = s.pc := by simp [State.push]
@[simp] theorem State.push_ps (s : State) (v : Byte) : (s.push v).ps = s.ps := by simp [State.push]
@[simp] theorem State.push_run (s : State) (v : Byte) : (s.push v).run = s.run := by simp [State.push]
@[simp] theorem State.push_xoutf (s : State) (v : Byte) : (s.push v).xoutf = s.xoutf := by simp [State.push]
@[simp] theorem State.push_window (s : State) (v : Byte) : (s.push v).window = s.window := by simp [State.push]
@[simp] theorem State.push_tick (s : State) (v : Byte) : (s.push v).tick = s.tick := by simp [State.push]
@[simp] theorem State.push_script (s : State) (v : Byte) : (s.push v).script = s.script := by simp [State.push]
@[simp] theorem State.push_cfg (s : State) (v : Byte) : (s.push v).cfg = s.cfg := by simp [State.push]

@[simp] theorem State.pulled_a (s : State) : s.pulled.a = s.a := rfl
@[simp] theorem State.pulled_x (s : State) : s.pulled.x = s.x := rfl
@[simp] theorem State.pulled_y (s : State) : s.pulled.y = s.y := rfl
@[simp] theorem State.pulled_pc (s : State) : s.pulled.pc = s.pc := rfl
@[simp] theorem State.pulled_ps (s : State) : s.pulled.ps = s.ps := rfl
@[simp] theorem State.pulled_mem (s : State) : s.pulled.mem = s.mem := rfl
@[simp] theorem State.pulled_run (s : State) : s.pulled.run = s.run := rfl
@[simp] theorem State.pulled_xoutf (s : State) : s.pulled.xoutf = s.xoutf := rfl
@[simp] theorem State.pulled_window (s : State) : s.pulled.window = s.window := rfl
@[simp] theorem State.pulled_tick (s : State) : s.pulled.tick = s.tick := rfl
@[simp] theorem State.pulled_script (s : State) : s.pulled.script = s.script := rfl
@[simp] theorem State.pulled_cfg (s : State) : s.pulled.cfg = s.cfg := rfl

@[simp] theorem State.takeVector_a (s : State) (vec : Addr) : (s.takeVector vec).a = s.a := rfl
@[simp] theorem State.takeVector_x (s : State) (vec : Addr) : (s.takeVector vec).x = s.x := rfl
@[simp] theorem State.takeVector_y (s : State) (vec : Addr) : (s.takeVector vec).y = s.y := rfl
@[simp] theorem State.takeVector_sp (s : State) (vec : Addr) : (s.takeVector vec).sp = s.sp := rfl
@[simp] theorem State.takeVector_ps (s : State) (vec : Addr) : (s.takeVector vec).ps = s.ps := rfl
@[simp] theorem State.takeVector_mem (s : State) (vec : Addr) : (s.takeVector vec).mem = s.mem := rfl
@[simp] theorem State.takeVector_run (s : State) (vec : Addr) : (s.takeVector vec).run = s.run := rfl
@[simp] theorem State.takeVector_xoutf (s : State) (vec : Addr) : (s.takeVector vec).xoutf = s.xoutf := rfl
@[simp] theorem State.takeVector_window (s : State) (vec : Addr) : (s.takeVector vec).window = s.window := rfl
@[simp] theorem State.takeVector_tick (s : State) (vec : Addr) : (s.takeVector vec).tick = s.tick := rfl
@[simp] theorem State.takeVector_script (s : State) (vec : Addr) : (s.takeVector vec).script = s.script := rfl
@[simp] theorem State.takeVector_cfg (s : State) (vec : Addr) : (s.takeVector vec).cfg = s.cfg := rfl

@[simp] theorem State.saveFrame_a (s : State) (ret : Addr) (b newI : Bool) : (s.saveFrame ret b newI).a = s.a := by simp [State.saveFrame]
@[simp] theorem State.saveFrame_x (s : State) (ret : Addr) (b newI : Bool) : (s.saveFrame ret b newI).x = s.x := by simp [State.saveFrame]
@[simp] theorem State.saveFrame_y (s : State) (ret : Addr) (b newI : Bool) : (s.saveFrame ret b newI).y = s.y := by simp [State.saveFrame]
@[simp] theorem State.saveFrame_pc (s : State) (ret : Addr) (b newI : Bool) : (s.saveFrame ret b newI).pc = s.pc := by simp [State.saveFrame]
@[simp] theorem State.saveFrame_run (s : State) (ret : Addr) (b newI : Bool) : (s.saveFrame ret b newI).run = s.run := by simp [State.saveFrame]
@[simp] theorem State.saveFrame_xoutf (s : State) (ret : Addr) (b newI : Bool) : (s.saveFrame ret b newI).xoutf = s.xoutf := by simp [State.saveFrame]
@[simp] theorem State.saveFrame_window (s : State) (ret : Addr) (b newI : Bool) : (s.saveFrame ret b newI).window = s.window := by simp [State.saveFrame]
@[simp] theorem State.saveFrame_tick (s : State) (ret : Addr) (b newI : Bool) : (s.saveFrame ret b newI).tick = s.tick := by simp [State.saveFrame]
@[simp] theorem State.saveFrame_script (s : State) (ret : Addr) (b newI : Bool) : (s.saveFrame ret b newI).script = s.script := by simp [State.saveFrame]
@[simp] theorem State.saveFrame_cfg (s : State) (ret : Addr) (b newI : Bool) : (s.saveFrame ret b newI).cfg = s.cfg := by simp [State.saveFrame]

@[simp] theorem State.acknowledge_a (src : IrqSource) (s : State) : (State.acknowledge src s).a = s.a := by unfold State.acknowledge; split <;> simp
@[simp] theorem State.acknowledge_x (src : IrqSource) (s : State) : (State.acknowledge src s).x = s.x := by unfold State.acknowledge; split <;> simp
@[simp] theorem State.acknowledge_y (src : IrqSource) (s : State) : (State.acknowledge src s).y = s.y := by unfold State.acknowledge; split <;> simp
@[simp] theorem State.acknowledge_sp (src : IrqSource) (s : State) : (State.acknowledge src s).sp = s.sp := by unfold State.acknowledge; split <;> simp
@[simp] theorem State.acknowledge_pc (src : IrqSource) (s : State) : (State.acknowledge src s).pc = s.pc := by unfold State.acknowledge; split <;> simp
@[simp] theorem State.acknowledge_ps (src : IrqSource) (s : State) : (State.acknowledge src s).ps = s.ps := by unfold State.acknowledge; split <;> simp
@[simp] theorem State.acknowledge_run (src : IrqSource) (s : State) : (State.acknowledge src s).run = s.run := by unfold State.acknowledge; split <;> simp
@[simp] theorem State.acknowledge_xoutf (src : IrqSource) (s : State) : (State.acknowledge src s).xoutf = s.xoutf := by unfold State.acknowledge; split <;> simp
@[simp] theorem State.acknowledge_window (src : IrqSource) (s : State) : (State.acknowledge src s).window = s.window := by unfold State.acknowledge; split <;> simp
@[simp] theorem State.acknowledge_tick (src : IrqSource) (s : State) : (State.acknowledge src s).tick = s.tick := by unfold State.acknowledge; split <;> simp
@[simp] theorem State.acknowledge_script (src : IrqSource) (s : State) : (State.acknowledge src s).script = s.script := by unfold State.acknowledge; split <;> simp
@[simp] theorem State.acknowledge_cfg (src : IrqSource) (s : State) : (State.acknowledge src s).cfg = s.cfg := by unfold State.acknowledge; split <;> simp

@[simp] theorem State.enterInterrupt_a (s : State) (src : IrqSource) : (s.enterInterrupt src).a = s.a := by simp [State.enterInterrupt, State.takeException]
@[simp] theorem State.enterInterrupt_x (s : State) (src : IrqSource) : (s.enterInterrupt src).x = s.x := by simp [State.enterInterrupt, State.takeException]
@[simp] theorem State.enterInterrupt_y (s : State) (src : IrqSource) : (s.enterInterrupt src).y = s.y := by simp [State.enterInterrupt, State.takeException]
@[simp] theorem State.enterInterrupt_run (s : State) (src : IrqSource) : (s.enterInterrupt src).run = s.run := by simp [State.enterInterrupt, State.takeException]
@[simp] theorem State.enterInterrupt_xoutf (s : State) (src : IrqSource) : (s.enterInterrupt src).xoutf = s.xoutf := by simp [State.enterInterrupt, State.takeException]
@[simp] theorem State.enterInterrupt_window (s : State) (src : IrqSource) : (s.enterInterrupt src).window = s.window := by simp [State.enterInterrupt, State.takeException]
@[simp] theorem State.enterInterrupt_tick (s : State) (src : IrqSource) : (s.enterInterrupt src).tick = s.tick := by simp [State.enterInterrupt, State.takeException]
@[simp] theorem State.enterInterrupt_script (s : State) (src : IrqSource) : (s.enterInterrupt src).script = s.script := by simp [State.enterInterrupt, State.takeException]
@[simp] theorem State.enterInterrupt_cfg (s : State) (src : IrqSource) : (s.enterInterrupt src).cfg = s.cfg := by simp [State.enterInterrupt, State.takeException]

@[simp] theorem State.enterBrk_a (s : State) : s.enterBrk.a = s.a := by simp [State.enterBrk, State.takeException]
@[simp] theorem State.enterBrk_x (s : State) : s.enterBrk.x = s.x := by simp [State.enterBrk, State.takeException]
@[simp] theorem State.enterBrk_y (s : State) : s.enterBrk.y = s.y := by simp [State.enterBrk, State.takeException]
@[simp] theorem State.enterBrk_run (s : State) : s.enterBrk.run = s.run := by simp [State.enterBrk, State.takeException]
@[simp] theorem State.enterBrk_xoutf (s : State) : s.enterBrk.xoutf = s.xoutf := by simp [State.enterBrk, State.takeException]
@[simp] theorem State.enterBrk_window (s : State) : s.enterBrk.window = s.window := by simp [State.enterBrk, State.takeException]
@[simp] theorem State.enterBrk_tick (s : State) : s.enterBrk.tick = s.tick := by simp [State.enterBrk, State.takeException]
@[simp] theorem State.enterBrk_script (s : State) : s.enterBrk.script = s.script := by simp [State.enterBrk, State.takeException]
@[simp] theorem State.enterBrk_cfg (s : State) : s.enterBrk.cfg = s.cfg := by simp [State.enterBrk, State.takeException]

@[simp] theorem State.returnFromException_a (s : State) : s.returnFromException.a = s.a := by simp [State.returnFromException]
@[simp] theorem State.returnFromException_x (s : State) : s.returnFromException.x = s.x := by simp [State.returnFromException]
@[simp] theorem State.returnFromException_y (s : State) : s.returnFromException.y = s.y := by simp [State.returnFromException]
@[simp] theorem State.returnFromException_mem (s : State) : s.returnFromException.mem = s.mem := by simp [State.returnFromException]
@[simp] theorem State.returnFromException_run (s : State) : s.returnFromException.run = s.run := by simp [State.returnFromException]
@[simp] theorem State.returnFromException_xoutf (s : State) : s.returnFromException.xoutf = s.xoutf := by simp [State.returnFromException]
@[simp] theorem State.returnFromException_window (s : State) : s.returnFromException.window = s.window := by simp [State.returnFromException]
@[simp] theorem State.returnFromException_tick (s : State) : s.returnFromException.tick = s.tick := by simp [State.returnFromException]
@[simp] theorem State.returnFromException_script (s : State) : s.returnFromException.script = s.script := by simp [State.returnFromException]
@[simp] theorem State.returnFromException_cfg (s : State) : s.returnFromException.cfg = s.cfg := by simp [State.returnFromException]

@[simp] theorem State.resetSource_a (s : State) (src : IrqSource) : (s.resetSource src).a = s.a := by simp [State.resetSource]
@[simp] theorem State.resetSource_x (s : State) (src : IrqSource) : (s.resetSource src).x = s.x := by simp [State.resetSource]
@[simp] theorem State.resetSource_y (s : State) (src : IrqSource) : (s.resetSource src).y = s.y := by simp [State.resetSource]
@[simp] theorem State.resetSource_sp (s : State) (src : IrqSource) : (s.resetSource src).sp = s.sp := by simp [State.resetSource]
@[simp] theorem State.resetSource_pc (s : State) (src : IrqSource) : (s.resetSource src).pc = s.pc := by simp [State.resetSource]
@[simp] theorem State.resetSource_ps (s : State) (src : IrqSource) : (s.resetSource src).ps = s.ps := by simp [State.resetSource]
@[simp] theorem State.resetSource_run (s : State) (src : IrqSource) : (s.resetSource src).run = s.run := by simp [State.resetSource]
@[simp] theorem State.resetSource_xoutf (s : State) (src : IrqSource) : (s.resetSource src).xoutf = s.xoutf := by simp [State.resetSource]
@[simp] theorem State.resetSource_window (s : State) (src : IrqSource) : (s.resetSource src).window = s.window := by simp [State.resetSource]
@[simp] theorem State.resetSource_tick (s : State) (src : IrqSource) : (s.resetSource src).tick = s.tick := by simp [State.resetSource]
@[simp] theorem State.resetSource_script (s : State) (src : IrqSource) : (s.resetSource src).script = s.script := by simp [State.resetSource]
@[simp] theorem State.resetSource_cfg (s : State) (src : IrqSource) : (s.resetSource src).cfg = s.cfg := by simp [State.resetSource]

@[simp] theorem State.put_x (o : Operand) (r : Byte) (s : State) : (o.put r s).x = s.x := by cases o <;> simp [Operand.put]
@[simp] theorem State.put_y (o : Operand) (r : Byte) (s : State) : (o.put r s).y = s.y := by cases o <;> simp [Operand.put]
@[simp] theorem State.put_sp (o : Operand) (r : Byte) (s : State) : (o.put r s).sp = s.sp := by cases o <;> simp [Operand.put]
@[simp] theorem State.put_pc (o : Operand) (r : Byte) (s : State) : (o.put r s).pc = s.pc := by cases o <;> simp [Operand.put]
@[simp] theorem State.put_ps (o : Operand) (r : Byte) (s : State) : (o.put r s).ps = s.ps := by cases o <;> simp [Operand.put]
@[simp] theorem State.put_run (o : Operand) (r : Byte) (s : State) : (o.put r s).run = s.run := by cases o <;> simp [Operand.put]
@[simp] theorem State.put_xoutf (o : Operand) (r : Byte) (s : State) : (o.put r s).xoutf = s.xoutf := by cases o <;> simp [Operand.put]
@[simp] theorem State.put_window (o : Operand) (r : Byte) (s : State) : (o.put r s).window = s.window := by cases o <;> simp [Operand.put]
@[simp] theorem State.put_tick (o : Operand) (r : Byte) (s : State) : (o.put r s).tick = s.tick := by cases o <;> simp [Operand.put]
@[simp] theorem State.put_script (o : Operand) (r : Byte) (s : State) : (o.put r s).script = s.script := by cases o <;> simp [Operand.put]
@[simp] theorem State.put_cfg (o : Operand) (r : Byte) (s : State) : (o.put r s).cfg = s.cfg := by cases o <;> simp [Operand.put]

@[simp] theorem State.accOut_x (s : State) (r : Byte) : (s.accOut r).x = s.x := by unfold State.accOut; split <;> simp
@[simp] theorem State.accOut_y (s : State) (r : Byte) : (s.accOut r).y = s.y := by unfold State.accOut; split <;> simp
@[simp] theorem State.accOut_sp (s : State) (r : Byte) : (s.accOut r).sp = s.sp := by unfold State.accOut; split <;> simp
@[simp] theorem State.accOut_pc (s : State) (r : Byte) : (s.accOut r).pc = s.pc := by unfold State.accOut; split <;> simp
@[simp] theorem State.accOut_ps (s : State) (r : Byte) : (s.accOut r).ps = s.ps := by unfold State.accOut; split <;> simp
@[simp] theorem State.accOut_run (s : State) (r : Byte) : (s.accOut r).run = s.run := by unfold State.accOut; split <;> simp
@[simp] theorem State.accOut_xoutf (s : State) (r : Byte) : (s.accOut r).xoutf = s.xoutf := by unfold State.accOut; split <;> simp
@[simp] theorem State.accOut_window (s : State) (r : Byte) : (s.accOut r).window = s.window := by unfold State.accOut; split <;> simp
@[simp] theorem State.accOut_tick (s : State) (r : Byte) : (s.accOut r).tick = s.tick := by unfold State.accOut; split <;> simp
@[simp] theorem State.accOut_script (s : State) (r : Byte) : (s.accOut r).script = s.script := by unfold State.accOut; split <;> simp
@[simp] theorem State.accOut_cfg (s : State) (r : Byte) : (s.accOut r).cfg = s.cfg := by unfold State.accOut; split <;> simp

@[simp] theorem State.loadA_x (o : Operand) (s : State) : (loadA o s).x = s.x := by simp [loadA]
@[simp] theorem State.loadA_y (o : Operand) (s : State) : (loadA o s).y = s.y := by simp [loadA]
@[simp] theorem State.loadA_sp (o : Operand) (s : State) : (loadA o s).sp = s.sp := by simp [loadA]
@[simp] theorem State.loadA_pc (o : Operand) (s : State) : (loadA o s).pc = s.pc := by simp [loadA]
@[simp] theorem State.loadA_run (o : Operand) (s : State) : (loadA o s).run = s.run := by simp [loadA]
@[simp] theorem State.loadA_xoutf (o : Operand) (s : State) : (loadA o s).xoutf = s.xoutf := by simp [loadA]
@[simp] theorem State.loadA_window (o : Operand) (s : State) : (loadA o s).window = s.window := by simp [loadA]
@[simp] theorem State.loadA_tick (o : Operand) (s : State) : (loadA o s).tick = s.tick := by simp [loadA]
@[simp] theorem State.loadA_script (o : Operand) (s : State) : (loadA o s).script = s.script := by simp [loadA]
@[simp] theorem State.loadA_cfg (o : Operand) (s : State) : (loadA o s).cfg = s.cfg := by simp [loadA]

@[simp] theorem State.loadX_a (o : Operand) (s : State) : (loadX o s).a = s.a := rfl
@[simp] theorem State.loadX_y (o : Operand) (s : State) : (loadX o s).y = s.y := rfl
@[simp] theorem State.loadX_sp (o : Operand) (s : State) : (loadX o s).sp = s.sp := rfl
@[simp] theorem State.loadX_pc (o : Operand) (s : State) : (loadX o s).pc = s.pc := rfl
@[simp] theorem State.loadX_mem (o : Operand) (s : State) : (loadX o s).mem = s.mem := rfl
@[simp] theorem State.loadX_run (o : Operand) (s : State) : (loadX o s).run = s.run := rfl
@[simp] theorem State.loadX_xoutf (o : Operand) (s : State) : (loadX o s).xoutf = s.xoutf := rfl
@[simp] theorem State.loadX_window (o : Operand) (s : State) : (loadX o s).window = s.window := rfl
@[simp] theorem State.loadX_tick (o : Operand) (s : State) : (loadX o s).tick = s.tick := rfl
@[simp] theorem State.loadX_script (o : Operand) (s : State) : (loadX o s).script = s.script := rfl
@[simp] theorem State.loadX_cfg (o : Operand) (s : State) : (loadX o s).cfg = s.cfg := rfl

@[simp] theorem State.loadY_a (o : Operand) (s : State) : (loadY o s).a = s.a := rfl
@[simp] theorem State.loadY_x (o : Operand) (s : State) : (loadY o s).x = s.x := rfl
@[simp] theorem State.loadY_sp (o : Operand) (s : State) : (loadY o s).sp = s.sp := rfl
@[simp] theorem State.loadY_pc (o : Operand) (s : State) : (loadY o s).pc = s.pc := rfl
@[simp] theorem State.loadY_mem (o : Operand) (s : State) : (loadY o s).mem = s.mem := rfl
@[simp] theorem State.loadY_run (o : Operand) (s : State) : (loadY o s).run = s.run := rfl
@[simp] theorem State.loadY_xoutf (o : Operand) (s : State) : (loadY o s).xoutf = s.xoutf := rfl
@[simp] theorem State.loadY_window (o : Operand) (s : State) : (loadY o s).window = s.window := rfl
@[simp] theorem State.loadY_tick (o : Operand) (s : State) : (loadY o s).tick = s.tick := rfl
@[simp] theorem State.loadY_script (o : Operand) (s : State) : (loadY o s).script = s.script := rfl
@[simp] theorem State.loadY_cfg (o : Operand) (s : State) : (loadY o s).cfg = s.cfg := rfl

@[simp] theorem State.storeByte_a (m : MemOperand) (v : Byte) (s : State) : (storeByte m v s).a = s.a := by simp [storeByte]
@[simp] theorem State.storeByte_x (m : MemOperand) (v : Byte) (s : State) : (storeByte m v s).x = s.x := by simp [storeByte]
@[simp] theorem State.storeByte_y (m : MemOperand) (v : Byte) (s : State) : (storeByte m v s).y = s.y := by simp [storeByte]
@[simp] theorem State.storeByte_sp (m : MemOperand) (v : Byte) (s : State) : (storeByte m v s).sp = s.sp := by simp [storeByte]
@[simp] theorem State.storeByte_pc (m : MemOperand) (v : Byte) (s : State) : (storeByte m v s).pc = s.pc := by simp [storeByte]
@[simp] theorem State.storeByte_ps (m : MemOperand) (v : Byte) (s : State) : (storeByte m v s).ps = s.ps := by simp [storeByte]
@[simp] theorem State.storeByte_run (m : MemOperand) (v : Byte) (s : State) : (storeByte m v s).run = s.run := by simp [storeByte]
@[simp] theorem State.storeByte_xoutf (m : MemOperand) (v : Byte) (s : State) : (storeByte m v s).xoutf = s.xoutf := by simp [storeByte]
@[simp] theorem State.storeByte_window (m : MemOperand) (v : Byte) (s : State) : (storeByte m v s).window = s.window := by simp [storeByte]
@[simp] theorem State.storeByte_tick (m : MemOperand) (v : Byte) (s : State) : (storeByte m v s).tick = s.tick := by simp [storeByte]
@[simp] theorem State.storeByte_script (m : MemOperand) (v : Byte) (s : State) : (storeByte m v s).script = s.script := by simp [storeByte]
@[simp] theorem State.storeByte_cfg (m : MemOperand) (v : Byte) (s : State) : (storeByte m v s).cfg = s.cfg := by simp [storeByte]

@[simp] theorem State.aluOp_x (f : Byte → Byte → PS → Byte × PS) (o : Operand) (s : State) : (aluOp f o s).x = s.x := by simp [aluOp]
@[simp] theorem State.aluOp_y (f : Byte → Byte → PS → Byte × PS) (o : Operand) (s : State) : (aluOp f o s).y = s.y := by simp [aluOp]
@[simp] theorem State.aluOp_sp (f : Byte → Byte → PS → Byte × PS) (o : Operand) (s : State) : (aluOp f o s).sp = s.sp := by simp [aluOp]
@[simp] theorem State.aluOp_pc (f : Byte → Byte → PS → Byte × PS) (o : Operand) (s : State) : (aluOp f o s).pc = s.pc := by simp [aluOp]
@[simp] theorem State.aluOp_run (f : Byte → Byte → PS → Byte × PS) (o : Operand) (s : State) : (aluOp f o s).run = s.run := by simp [aluOp]
@[simp] theorem State.aluOp_xoutf (f : Byte → Byte → PS → Byte × PS) (o : Operand) (s : State) : (aluOp f o s).xoutf = s.xoutf := by simp [aluOp]
@[simp] theorem State.aluOp_window (f : Byte → Byte → PS → Byte × PS) (o : Operand) (s : State) : (aluOp f o s).window = s.window := by simp [aluOp]
@[simp] theorem State.aluOp_tick (f : Byte → Byte → PS → Byte × PS) (o : Operand) (s : State) : (aluOp f o s).tick = s.tick := by simp [aluOp]
@[simp] theorem State.aluOp_script (f : Byte → Byte → PS → Byte × PS) (o : Operand) (s : State) : (aluOp f o s).script = s.script := by simp [aluOp]
@[simp] theorem State.aluOp_cfg (f : Byte → Byte → PS → Byte × PS) (o : Operand) (s : State) : (aluOp f o s).cfg = s.cfg := by simp [aluOp]

@[simp] theorem State.compareWith_a (r : Byte) (o : Operand) (s : State) : (compareWith r o s).a = s.a := rfl
@[simp] theorem State.compareWith_x (r : Byte) (o : Operand) (s : State) : (compareWith r o s).x = s.x := rfl
@[simp] theorem State.compareWith_y (r : Byte) (o : Operand) (s : State) : (compareWith r o s).y = s.y := rfl
@[simp] theorem State.compareWith_sp (r : Byte) (o : Operand) (s : State) : (compareWith r o s).sp = s.sp := rfl
@[simp] theorem State.compareWith_pc (r : Byte) (o : Operand) (s : State) : (compareWith r o s).pc = s.pc := rfl
@[simp] theorem State.compareWith_mem (r : Byte) (o : Operand) (s : State) : (compareWith r o s).mem = s.mem := rfl
@[simp] theorem State.compareWith_run (r : Byte) (o : Operand) (s : State) : (compareWith r o s).run = s.run := rfl
@[simp] theorem State.compareWith_xoutf (r : Byte) (o : Operand) (s : State) : (compareWith r o s).xoutf = s.xoutf := rfl
@[simp] theorem State.compareWith_window (r : Byte) (o : Operand) (s : State) : (compareWith r o s).window = s.window := rfl
@[simp] theorem State.compareWith_tick (r : Byte) (o : Operand) (s : State) : (compareWith r o s).tick = s.tick := rfl
@[simp] theorem State.compareWith_script (r : Byte) (o : Operand) (s : State) : (compareWith r o s).script = s.script := rfl
@[simp] theorem State.compareWith_cfg (r : Byte) (o : Operand) (s : State) : (compareWith r o s).cfg = s.cfg := rfl

@[simp] theorem State.testBits_a (o : Operand) (s : State) : (testBits o s).a = s.a := rfl
@[simp] theorem State.testBits_x (o : Operand) (s : State) : (testBits o s).x = s.x := rfl
@[simp] theorem State.testBits_y (o : Operand) (s : State) : (testBits o s).y = s.y := rfl
@[simp] theorem State.testBits_sp (o : Operand) (s : State) : (testBits o s).sp = s.sp := rfl
@[simp] theorem State.testBits_pc (o : Operand) (s : State) : (testBits o s).pc = s.pc := rfl
@[simp] theorem State.testBits_mem (o : Operand) (s : State) : (testBits o s).mem = s.mem := rfl
@[simp] theorem State.testBits_run (o : Operand) (s : State) : (testBits o s).run = s.run := rfl
@[simp] theorem State.testBits_xoutf (o : Operand) (s : State) : (testBits o s).xoutf = s.xoutf := rfl
@[simp] theorem State.testBits_window (o : Operand) (s : State) : (testBits o s).window = s.window := rfl
@[simp] theorem State.testBits_tick (o : Operand) (s : State) : (testBits o s).tick = s.tick := rfl
@[simp] theorem State.testBits_script (o : Operand) (s : State) : (testBits o s).script = s.script := rfl
@[simp] theorem State.testBits_cfg (o : Operand) (s : State) : (testBits o s).cfg = s.cfg := rfl

@[simp] theorem State.testByte_a (o : Operand) (s : State) : (testByte o s).a = s.a := rfl
@[simp] theorem State.testByte_x (o : Operand) (s : State) : (testByte o s).x = s.x := rfl
@[simp] theorem State.testByte_y (o : Operand) (s : State) : (testByte o s).y = s.y := rfl
@[simp] theorem State.testByte_sp (o : Operand) (s : State) : (testByte o s).sp = s.sp := rfl
@[simp] theorem State.testByte_pc (o : Operand) (s : State) : (testByte o s).pc = s.pc := rfl
@[simp] theorem State.testByte_mem (o : Operand) (s : State) : (testByte o s).mem = s.mem := rfl
@[simp] theorem State.testByte_run (o : Operand) (s : State) : (testByte o s).run = s.run := rfl
@[simp] theorem State.testByte_xoutf (o : Operand) (s : State) : (testByte o s).xoutf = s.xoutf := rfl
@[simp] theorem State.testByte_window (o : Operand) (s : State) : (testByte o s).window = s.window := rfl
@[simp] theorem State.testByte_tick (o : Operand) (s : State) : (testByte o s).tick = s.tick := rfl
@[simp] theorem State.testByte_script (o : Operand) (s : State) : (testByte o s).script = s.script := rfl
@[simp] theorem State.testByte_cfg (o : Operand) (s : State) : (testByte o s).cfg = s.cfg := rfl

@[simp] theorem State.multiply_x (z : Byte) (s : State) : (multiply z s).x = s.x := by simp [multiply]
@[simp] theorem State.multiply_y (z : Byte) (s : State) : (multiply z s).y = s.y := by simp [multiply]
@[simp] theorem State.multiply_pc (z : Byte) (s : State) : (multiply z s).pc = s.pc := by simp [multiply]
@[simp] theorem State.multiply_ps (z : Byte) (s : State) : (multiply z s).ps = s.ps := by simp [multiply]
@[simp] theorem State.multiply_run (z : Byte) (s : State) : (multiply z s).run = s.run := by simp [multiply]
@[simp] theorem State.multiply_xoutf (z : Byte) (s : State) : (multiply z s).xoutf = s.xoutf := by simp [multiply]
@[simp] theorem State.multiply_window (z : Byte) (s : State) : (multiply z s).window = s.window := by simp [multiply]
@[simp] theorem State.multiply_tick (z : Byte) (s : State) : (multiply z s).tick = s.tick := by simp [multiply]
@[simp] theorem State.multiply_script (z : Byte) (s : State) : (multiply z s).script = s.script := by simp [multiply]
@[simp] theorem State.multiply_cfg (z : Byte) (s : State) : (multiply z s).cfg = s.cfg := by simp [multiply]

@[simp] theorem State.divide_x (z : Byte) (s : State) : (divide z s).x = s.x := by simp only [divide]; split <;> simp
@[simp] theorem State.divide_y (z : Byte) (s : State) : (divide z s).y = s.y := by simp only [divide]; split <;> simp
@[simp] theorem State.divide_pc (z : Byte) (s : State) : (divide z s).pc = s.pc := by simp only [divide]; split <;> simp
@[simp] theorem State.divide_ps (z : Byte) (s : State) : (divide z s).ps = s.ps := by simp only [divide]; split <;> simp
@[simp] theorem State.divide_run (z : Byte) (s : State) : (divide z s).run = s.run := by simp only [divide]; split <;> simp
@[simp] theorem State.divide_xoutf (z : Byte) (s : State) : (divide z s).xoutf = s.xoutf := by simp only [divide]; split <;> simp
@[simp] theorem State.divide_window (z : Byte) (s : State) : (divide z s).window = s.window := by simp only [divide]; split <;> simp
@[simp] theorem State.divide_tick (z : Byte) (s : State) : (divide z s).tick = s.tick := by simp only [divide]; split <;> simp
@[simp] theorem State.divide_script (z : Byte) (s : State) : (divide z s).script = s.script := by simp only [divide]; split <;> simp
@[simp] theorem State.divide_cfg (z : Byte) (s : State) : (divide z s).cfg = s.cfg := by simp only [divide]; split <;> simp

@[simp] theorem State.readModifyWrite_x (f : Byte → PS → Byte × PS) (o : Operand) (s : State) : (readModifyWrite f o s).x = s.x := by simp [readModifyWrite]
@[simp] theorem State.readModifyWrite_y (f : Byte → PS → Byte × PS) (o : Operand) (s : State) : (readModifyWrite f o s).y = s.y := by simp [readModifyWrite]
@[simp] theorem State.readModifyWrite_sp (f : Byte → PS → Byte × PS) (o : Operand) (s : State) : (readModifyWrite f o s).sp = s.sp := by simp [readModifyWrite]
@[simp] theorem State.readModifyWrite_pc (f : Byte → PS → Byte × PS) (o : Operand) (s : State) : (readModifyWrite f o s).pc = s.pc := by simp [readModifyWrite]
@[simp] theorem State.readModifyWrite_run (f : Byte → PS → Byte × PS) (o : Operand) (s : State) : (readModifyWrite f o s).run = s.run := by simp [readModifyWrite]
@[simp] theorem State.readModifyWrite_xoutf (f : Byte → PS → Byte × PS) (o : Operand) (s : State) : (readModifyWrite f o s).xoutf = s.xoutf := by simp [readModifyWrite]
@[simp] theorem State.readModifyWrite_window (f : Byte → PS → Byte × PS) (o : Operand) (s : State) : (readModifyWrite f o s).window = s.window := by simp [readModifyWrite]
@[simp] theorem State.readModifyWrite_tick (f : Byte → PS → Byte × PS) (o : Operand) (s : State) : (readModifyWrite f o s).tick = s.tick := by simp [readModifyWrite]
@[simp] theorem State.readModifyWrite_script (f : Byte → PS → Byte × PS) (o : Operand) (s : State) : (readModifyWrite f o s).script = s.script := by simp [readModifyWrite]
@[simp] theorem State.readModifyWrite_cfg (f : Byte → PS → Byte × PS) (o : Operand) (s : State) : (readModifyWrite f o s).cfg = s.cfg := by simp [readModifyWrite]

@[simp] theorem State.call_a (n : Nat) (g : State → Addr) (s : State) : (call n g s).a = s.a := by simp [call]
@[simp] theorem State.call_x (n : Nat) (g : State → Addr) (s : State) : (call n g s).x = s.x := by simp [call]
@[simp] theorem State.call_y (n : Nat) (g : State → Addr) (s : State) : (call n g s).y = s.y := by simp [call]
@[simp] theorem State.call_ps (n : Nat) (g : State → Addr) (s : State) : (call n g s).ps = s.ps := by simp [call]
@[simp] theorem State.call_run (n : Nat) (g : State → Addr) (s : State) : (call n g s).run = s.run := by simp [call]
@[simp] theorem State.call_xoutf (n : Nat) (g : State → Addr) (s : State) : (call n g s).xoutf = s.xoutf := by simp [call]
@[simp] theorem State.call_window (n : Nat) (g : State → Addr) (s : State) : (call n g s).window = s.window := by simp [call]
@[simp] theorem State.call_tick (n : Nat) (g : State → Addr) (s : State) : (call n g s).tick = s.tick := by simp [call]
@[simp] theorem State.call_script (n : Nat) (g : State → Addr) (s : State) : (call n g s).script = s.script := by simp [call]
@[simp] theorem State.call_cfg (n : Nat) (g : State → Addr) (s : State) : (call n g s).cfg = s.cfg := by simp [call]

@[simp] theorem State.returnFromCall_a (s : State) : (returnFromCall s).a = s.a := by simp [returnFromCall]
@[simp] theorem State.returnFromCall_x (s : State) : (returnFromCall s).x = s.x := by simp [returnFromCall]
@[simp] theorem State.returnFromCall_y (s : State) : (returnFromCall s).y = s.y := by simp [returnFromCall]
@[simp] theorem State.returnFromCall_ps (s : State) : (returnFromCall s).ps = s.ps := by simp [returnFromCall]
@[simp] theorem State.returnFromCall_mem (s : State) : (returnFromCall s).mem = s.mem := by simp [returnFromCall]
@[simp] theorem State.returnFromCall_run (s : State) : (returnFromCall s).run = s.run := by simp [returnFromCall]
@[simp] theorem State.returnFromCall_xoutf (s : State) : (returnFromCall s).xoutf = s.xoutf := by simp [returnFromCall]
@[simp] theorem State.returnFromCall_window (s : State) : (returnFromCall s).window = s.window := by simp [returnFromCall]
@[simp] theorem State.returnFromCall_tick (s : State) : (returnFromCall s).tick = s.tick := by simp [returnFromCall]
@[simp] theorem State.returnFromCall_script (s : State) : (returnFromCall s).script = s.script := by simp [returnFromCall]
@[simp] theorem State.returnFromCall_cfg (s : State) : (returnFromCall s).cfg = s.cfg := by simp [returnFromCall]

@[simp] theorem State.jumpThrough_a (a b : Addr) (s : State) : (jumpThrough a b s).a = s.a := rfl
@[simp] theorem State.jumpThrough_x (a b : Addr) (s : State) : (jumpThrough a b s).x = s.x := rfl
@[simp] theorem State.jumpThrough_y (a b : Addr) (s : State) : (jumpThrough a b s).y = s.y := rfl
@[simp] theorem State.jumpThrough_sp (a b : Addr) (s : State) : (jumpThrough a b s).sp = s.sp := rfl
@[simp] theorem State.jumpThrough_ps (a b : Addr) (s : State) : (jumpThrough a b s).ps = s.ps := rfl
@[simp] theorem State.jumpThrough_mem (a b : Addr) (s : State) : (jumpThrough a b s).mem = s.mem := rfl
@[simp] theorem State.jumpThrough_run (a b : Addr) (s : State) : (jumpThrough a b s).run = s.run := rfl
@[simp] theorem State.jumpThrough_xoutf (a b : Addr) (s : State) : (jumpThrough a b s).xoutf = s.xoutf := rfl
@[simp] theorem State.jumpThrough_window (a b : Addr) (s : State) : (jumpThrough a b s).window = s.window := rfl
@[simp] theorem State.jumpThrough_tick (a b : Addr) (s : State) : (jumpThrough a b s).tick = s.tick := rfl
@[simp] theorem State.jumpThrough_script (a b : Addr) (s : State) : (jumpThrough a b s).script = s.script := rfl
@[simp] theorem State.jumpThrough_cfg (a b : Addr) (s : State) : (jumpThrough a b s).cfg = s.cfg := rfl

end Sys2Proof.Machine
end

