-- ==== Sys2Proof/Laws/Memory.lean ====
section
/-! SUPPORT. The laws of memory as a list: a read after a write to the same address gives the byte written, a write
leaves every other address alone, and every memory operation keeps the canonical form. They are stated of any list,
so that they hold in every state; only the last needs the canonical form as a premise. -/

namespace Sys2Proof.Machine

theorem Memory.byte_erase (m : Memory) (a b : Nat) :
    (m.erase a).byte b = if b = a then blankByte else m.byte b := by
  induction m with
  | nil => simp [Memory.erase, Memory.byte]
  | cons c m ih =>
    simp only [Memory.erase, Memory.byte]
    split
    · rename_i hc
      rw [ih]
      by_cases hb : b = a
      · simp [hb]
      · rw [if_neg hb, if_neg hb, if_neg (fun h => hb (h.symm.trans hc))]
    · rename_i hc
      simp only [Memory.byte, ih]
      by_cases hb : b = a
      · simp [hb, hc]
      · simp [hb]

theorem Memory.erase_no_entry (m : Memory) (a : Nat) : ∀ c ∈ m.erase a, c.1 ≠ a := by
  induction m with
  | nil => simp [Memory.erase]
  | cons c m ih =>
    simp only [Memory.erase]
    split
    · exact ih
    · simpa using ⟨by assumption, fun x y h => ih (x, y) h⟩

theorem Memory.byte_insert (m : Memory) (a : Nat) (v : Byte) (b : Nat) (h : ∀ c ∈ m, c.1 ≠ a) :
    (m.insert a v).byte b = if b = a then v else m.byte b := by
  induction m with
  | nil => simp only [Memory.insert, Memory.byte, eq_comm]
  | cons c m ih =>
    have hc : c.1 ≠ a := h c (by simp)
    have ih := ih (fun d hd => h d (by simp [hd]))
    simp only [Memory.insert]
    split
    · simp only [Memory.byte, eq_comm (a := a)]
    · simp only [Memory.byte, ih]; split <;> split <;> simp_all

/-- A write changes the byte it names and no other. -/
theorem Memory.byte_set (m : Memory) (a : Nat) (v : Byte) (b : Nat) :
    (m.set a v).byte b = if b = a then v else m.byte b := by
  unfold Memory.set
  split
  · rw [Memory.byte_erase]; simp_all
  · rw [Memory.byte_insert _ _ _ _ (Memory.erase_no_entry m a), Memory.byte_erase]; split <;> simp_all

@[simp] theorem Memory.byte_set_self (m : Memory) (a : Nat) (v : Byte) : (m.set a v).byte a = v := by
  simp [Memory.byte_set]

theorem Memory.byte_set_other (m : Memory) (a : Nat) (v : Byte) (b : Nat) (h : b ≠ a) :
    (m.set a v).byte b = m.byte b := by
  simp [Memory.byte_set, h]

/-- The canonical form in words: every entry below 2^16 and different from `blankByte`, addresses strictly rising. -/
theorem Memory.wf_cons (c : Host.Cell) (m : Memory) :
    Memory.wf (c :: m) = true ↔
      c.1 < 65536 ∧ c.2 ≠ blankByte ∧ (∀ e ∈ m, c.1 < e.1) ∧ Memory.wf m = true := by
  simp [Memory.wf, and_assoc]

theorem Memory.erase_subset (m : Memory) (a : Nat) : ∀ c ∈ m.erase a, c ∈ m := by
  induction m with
  | nil => simp [Memory.erase]
  | cons d m ih =>
    intro c hc
    simp only [Memory.erase] at hc
    split at hc
    · exact List.mem_cons_of_mem _ (ih c hc)
    · rcases List.mem_cons.mp hc with rfl | h
      · simp
      · exact List.mem_cons_of_mem _ (ih c h)

theorem Memory.erase_wf (m : Memory) (a : Nat) (h : Memory.wf m = true) : Memory.wf (m.erase a) = true := by
  induction m with
  | nil => rfl
  | cons c m ih =>
    obtain ⟨h1, h2, h3, h4⟩ := (Memory.wf_cons c m).mp h
    simp only [Memory.erase]
    split
    · exact ih h4
    · exact (Memory.wf_cons _ _).mpr ⟨h1, h2, fun e he => h3 e (Memory.erase_subset m a e he), ih h4⟩

theorem Memory.mem_insert (m : Memory) (a : Nat) (v : Byte) : ∀ e ∈ m.insert a v, e = (a, v) ∨ e ∈ m := by
  induction m with
  | nil => simp [Memory.insert]
  | cons d m ih =>
    intro e he
    simp only [Memory.insert] at he
    split at he
    · simpa using he
    · rcases List.mem_cons.mp he with rfl | h
      · simp
      · rcases ih e h with h | h <;> simp [h]

theorem Memory.insert_wf (m : Memory) (a : Nat) (v : Byte) (ha : a < 65536) (hv : v ≠ blankByte)
    (hn : ∀ c ∈ m, c.1 ≠ a) (h : Memory.wf m = true) : Memory.wf (m.insert a v) = true := by
  induction m with
  | nil => simpa [Memory.insert, Memory.wf] using ⟨ha, hv⟩
  | cons c m ih =>
    obtain ⟨h1, h2, h3, h4⟩ := (Memory.wf_cons c m).mp h
    have hc : c.1 ≠ a := hn c (by simp)
    simp only [Memory.insert]
    split
    · refine (Memory.wf_cons _ _).mpr ⟨ha, hv, ?_, h⟩
      intro e he
      rcases List.mem_cons.mp he with rfl | he
      · assumption
      · exact Nat.lt_trans (by assumption) (h3 e he)
    · refine (Memory.wf_cons _ _).mpr ⟨h1, h2, ?_, ih (fun d hd => hn d (by simp [hd])) h4⟩
      intro e he
      rcases Memory.mem_insert m a v e he with rfl | he
      · simp only; omega
      · exact h3 e he

/-- Every write keeps the canonical form. -/
theorem Memory.set_wf (m : Memory) (a : Addr) (v : Byte) (h : Memory.wf m = true) :
    Memory.wf (m.set a.toNat v) = true := by
  unfold Memory.set
  split
  · exact Memory.erase_wf m _ h
  · exact Memory.insert_wf _ _ v a.isLt (by assumption) (Memory.erase_no_entry m _) (Memory.erase_wf m _ h)

/-- In the canonical form the bytes decide the list: equal memories are equal data. -/
theorem Memory.eq_of_bytes (m n : Memory) (hm : Memory.wf m = true) (hn : Memory.wf n = true)
    (h : ∀ a : Nat, m.byte a = n.byte a) : m = n := by
  have below : ∀ (l : Memory) (a : Nat), (∀ e ∈ l, a < e.1) → l.byte a = blankByte := by
    intro l a
    induction l with
    | nil => intro _; rfl
    | cons c l ih =>
      intro hl
      have : a < c.1 := hl c (by simp)
      simp only [Memory.byte]
      split
      · omega
      · exact ih (fun e he => hl e (by simp [he]))
  induction m generalizing n with
  | nil =>
    cases n with
    | nil => rfl
    | cons d n =>
      obtain ⟨-, h2, -, -⟩ := (Memory.wf_cons d n).mp hn
      have := h d.1
      simp only [Memory.byte, if_true] at this
      exact absurd this.symm h2
  | cons c m ih =>
    obtain ⟨-, c2, c3, c4⟩ := (Memory.wf_cons c m).mp hm
    cases n with
    | nil =>
      have := h c.1
      simp only [Memory.byte, if_true] at this
      exact absurd this c2
    | cons d n =>
      obtain ⟨-, d2, d3, d4⟩ := (Memory.wf_cons d n).mp hn
      have key : c.1 = d.1 := by
        rcases Nat.lt_trichotomy c.1 d.1 with hlt | heq | hgt
        · have := h c.1
          have hb := below (d :: n) c.1 (fun e he => by
            rcases List.mem_cons.mp he with rfl | he
            · exact hlt
            · exact Nat.lt_trans hlt (d3 e he))
          rw [hb] at this
          simp only [Memory.byte, if_true] at this
          exact absurd this c2
        · exact heq
        · have := h d.1
          have hb := below (c :: m) d.1 (fun e he => by
            rcases List.mem_cons.mp he with rfl | he
            · exact hgt
            · exact Nat.lt_trans hgt (c3 e he))
          rw [hb] at this
          simp only [Memory.byte, if_true] at this
          exact absurd this.symm d2
      have hv : c.2 = d.2 := by
        have := h c.1
        simpa [Memory.byte, key] using this
      have hcd : c = d := Prod.ext key hv
      subst hcd
      rw [ih n c4 d4 (fun a => by
        have := h a
        simp only [Memory.byte] at this
        by_cases hca : c.1 = a
        · subst hca; rw [below m c.1 c3, below n c.1 d3]
        · simpa [hca] using this)]

theorem reset_memory_wf : Memory.wf State.reset.mem = true := rfl

end Sys2Proof.Machine
end

