-- ==== Sys2Proof/Laws/Reads.lean ====
section
/-! SUPPORT. What a read of memory depends on: an update of a field that the read does not look at leaves its value. -/

namespace Sys2Proof.Machine

@[simp] theorem State.setA_byteAt (s : State) (v : Byte) (b : Addr) :
    (s.setA v).byteAt b = s.byteAt b := rfl
@[simp] theorem State.setX_byteAt (s : State) (v : Byte) (b : Addr) :
    (s.setX v).byteAt b = s.byteAt b := rfl
@[simp] theorem State.setY_byteAt (s : State) (v : Byte) (b : Addr) :
    (s.setY v).byteAt b = s.byteAt b := rfl
@[simp] theorem State.setSp_byteAt (s : State) (v : Byte) (b : Addr) :
    (s.setSp v).byteAt b = s.byteAt b := rfl
@[simp] theorem State.setPc_byteAt (s : State) (v : Addr) (b : Addr) :
    (s.setPc v).byteAt b = s.byteAt b := rfl
@[simp] theorem State.setPs_byteAt (s : State) (v : PS) (b : Addr) :
    (s.setPs v).byteAt b = s.byteAt b := rfl
@[simp] theorem State.setRun_byteAt (s : State) (v : RunState) (b : Addr) :
    (s.setRun v).byteAt b = s.byteAt b := rfl
@[simp] theorem State.setXoutf_byteAt (s : State) (v : Bool) (b : Addr) :
    (s.setXoutf v).byteAt b = s.byteAt b := rfl
@[simp] theorem State.setWindow_byteAt (s : State) (v : Window) (b : Addr) :
    (s.setWindow v).byteAt b = s.byteAt b := rfl
@[simp] theorem State.setTick_byteAt (s : State) (v : Nat) (b : Addr) :
    (s.setTick v).byteAt b = s.byteAt b := rfl
@[simp] theorem State.setScript_byteAt (s : State) (v : List EnvInput) (b : Addr) :
    (s.setScript v).byteAt b = s.byteAt b := rfl

@[simp] theorem State.setA_latch (s : State) (v : Byte) (l : BitLoc) :
    (s.setA v).latch l = s.latch l := rfl
@[simp] theorem State.setX_latch (s : State) (v : Byte) (l : BitLoc) :
    (s.setX v).latch l = s.latch l := rfl
@[simp] theorem State.setY_latch (s : State) (v : Byte) (l : BitLoc) :
    (s.setY v).latch l = s.latch l := rfl
@[simp] theorem State.setSp_latch (s : State) (v : Byte) (l : BitLoc) :
    (s.setSp v).latch l = s.latch l := rfl
@[simp] theorem State.setPc_latch (s : State) (v : Addr) (l : BitLoc) :
    (s.setPc v).latch l = s.latch l := rfl
@[simp] theorem State.setPs_latch (s : State) (v : PS) (l : BitLoc) :
    (s.setPs v).latch l = s.latch l := rfl
@[simp] theorem State.setRun_latch (s : State) (v : RunState) (l : BitLoc) :
    (s.setRun v).latch l = s.latch l := rfl
@[simp] theorem State.setXoutf_latch (s : State) (v : Bool) (l : BitLoc) :
    (s.setXoutf v).latch l = s.latch l := rfl
@[simp] theorem State.setWindow_latch (s : State) (v : Window) (l : BitLoc) :
    (s.setWindow v).latch l = s.latch l := rfl
@[simp] theorem State.setTick_latch (s : State) (v : Nat) (l : BitLoc) :
    (s.setTick v).latch l = s.latch l := rfl
@[simp] theorem State.setScript_latch (s : State) (v : List EnvInput) (l : BitLoc) :
    (s.setScript v).latch l = s.latch l := rfl

@[simp] theorem State.setA_freshMask (s : State) (v : Byte) (b : Addr) :
    (s.setA v).freshMask b = s.freshMask b := rfl
@[simp] theorem State.setX_freshMask (s : State) (v : Byte) (b : Addr) :
    (s.setX v).freshMask b = s.freshMask b := rfl
@[simp] theorem State.setY_freshMask (s : State) (v : Byte) (b : Addr) :
    (s.setY v).freshMask b = s.freshMask b := rfl
@[simp] theorem State.setSp_freshMask (s : State) (v : Byte) (b : Addr) :
    (s.setSp v).freshMask b = s.freshMask b := rfl
@[simp] theorem State.setPc_freshMask (s : State) (v : Addr) (b : Addr) :
    (s.setPc v).freshMask b = s.freshMask b := rfl
@[simp] theorem State.setPs_freshMask (s : State) (v : PS) (b : Addr) :
    (s.setPs v).freshMask b = s.freshMask b := rfl
@[simp] theorem State.setMem_freshMask (s : State) (v : Memory) (b : Addr) :
    (s.setMem v).freshMask b = s.freshMask b := rfl
@[simp] theorem State.setRun_freshMask (s : State) (v : RunState) (b : Addr) :
    (s.setRun v).freshMask b = s.freshMask b := rfl
@[simp] theorem State.setXoutf_freshMask (s : State) (v : Bool) (b : Addr) :
    (s.setXoutf v).freshMask b = s.freshMask b := rfl
@[simp] theorem State.setTick_freshMask (s : State) (v : Nat) (b : Addr) :
    (s.setTick v).freshMask b = s.freshMask b := rfl
@[simp] theorem State.setScript_freshMask (s : State) (v : List EnvInput) (b : Addr) :
    (s.setScript v).freshMask b = s.freshMask b := rfl

@[simp] theorem State.setA_sourceByte (s : State) (v : Byte) (acc : Access) (b : Addr) :
    (s.setA v).sourceByte acc b = s.sourceByte acc b := rfl
@[simp] theorem State.setX_sourceByte (s : State) (v : Byte) (acc : Access) (b : Addr) :
    (s.setX v).sourceByte acc b = s.sourceByte acc b := rfl
@[simp] theorem State.setY_sourceByte (s : State) (v : Byte) (acc : Access) (b : Addr) :
    (s.setY v).sourceByte acc b = s.sourceByte acc b := rfl
@[simp] theorem State.setSp_sourceByte (s : State) (v : Byte) (acc : Access) (b : Addr) :
    (s.setSp v).sourceByte acc b = s.sourceByte acc b := rfl
@[simp] theorem State.setPc_sourceByte (s : State) (v : Addr) (acc : Access) (b : Addr) :
    (s.setPc v).sourceByte acc b = s.sourceByte acc b := rfl
@[simp] theorem State.setPs_sourceByte (s : State) (v : PS) (acc : Access) (b : Addr) :
    (s.setPs v).sourceByte acc b = s.sourceByte acc b := rfl
@[simp] theorem State.setRun_sourceByte (s : State) (v : RunState) (acc : Access) (b : Addr) :
    (s.setRun v).sourceByte acc b = s.sourceByte acc b := rfl
@[simp] theorem State.setXoutf_sourceByte (s : State) (v : Bool) (acc : Access) (b : Addr) :
    (s.setXoutf v).sourceByte acc b = s.sourceByte acc b := rfl
@[simp] theorem State.setWindow_sourceByte (s : State) (v : Window) (acc : Access) (b : Addr) :
    (s.setWindow v).sourceByte acc b = s.sourceByte acc b := rfl
@[simp] theorem State.setScript_sourceByte (s : State) (v : List EnvInput) (acc : Access) (b : Addr) :
    (s.setScript v).sourceByte acc b = s.sourceByte acc b := rfl

@[simp] theorem State.setA_read (s : State) (v : Byte) (acc : Access) (b : Addr) :
    (s.setA v).read acc b = s.read acc b := rfl
@[simp] theorem State.setX_read (s : State) (v : Byte) (acc : Access) (b : Addr) :
    (s.setX v).read acc b = s.read acc b := rfl
@[simp] theorem State.setY_read (s : State) (v : Byte) (acc : Access) (b : Addr) :
    (s.setY v).read acc b = s.read acc b := rfl
@[simp] theorem State.setSp_read (s : State) (v : Byte) (acc : Access) (b : Addr) :
    (s.setSp v).read acc b = s.read acc b := rfl
@[simp] theorem State.setPc_read (s : State) (v : Addr) (acc : Access) (b : Addr) :
    (s.setPc v).read acc b = s.read acc b := rfl
@[simp] theorem State.setPs_read (s : State) (v : PS) (acc : Access) (b : Addr) :
    (s.setPs v).read acc b = s.read acc b := rfl
@[simp] theorem State.setRun_read (s : State) (v : RunState) (acc : Access) (b : Addr) :
    (s.setRun v).read acc b = s.read acc b := rfl
@[simp] theorem State.setXoutf_read (s : State) (v : Bool) (acc : Access) (b : Addr) :
    (s.setXoutf v).read acc b = s.read acc b := rfl
@[simp] theorem State.setScript_read (s : State) (v : List EnvInput) (acc : Access) (b : Addr) :
    (s.setScript v).read acc b = s.read acc b := rfl

@[simp] theorem State.setA_writable (s : State) (v : Byte) (b : Addr) :
    (s.setA v).writable b = s.writable b := rfl
@[simp] theorem State.setX_writable (s : State) (v : Byte) (b : Addr) :
    (s.setX v).writable b = s.writable b := rfl
@[simp] theorem State.setY_writable (s : State) (v : Byte) (b : Addr) :
    (s.setY v).writable b = s.writable b := rfl
@[simp] theorem State.setSp_writable (s : State) (v : Byte) (b : Addr) :
    (s.setSp v).writable b = s.writable b := rfl
@[simp] theorem State.setPc_writable (s : State) (v : Addr) (b : Addr) :
    (s.setPc v).writable b = s.writable b := rfl
@[simp] theorem State.setPs_writable (s : State) (v : PS) (b : Addr) :
    (s.setPs v).writable b = s.writable b := rfl
@[simp] theorem State.setMem_writable (s : State) (v : Memory) (b : Addr) :
    (s.setMem v).writable b = s.writable b := rfl
@[simp] theorem State.setRun_writable (s : State) (v : RunState) (b : Addr) :
    (s.setRun v).writable b = s.writable b := rfl
@[simp] theorem State.setXoutf_writable (s : State) (v : Bool) (b : Addr) :
    (s.setXoutf v).writable b = s.writable b := rfl
@[simp] theorem State.setWindow_writable (s : State) (v : Window) (b : Addr) :
    (s.setWindow v).writable b = s.writable b := rfl
@[simp] theorem State.setTick_writable (s : State) (v : Nat) (b : Addr) :
    (s.setTick v).writable b = s.writable b := rfl
@[simp] theorem State.setScript_writable (s : State) (v : List EnvInput) (b : Addr) :
    (s.setScript v).writable b = s.writable b := rfl

@[simp] theorem State.setA_stackPageHi (s : State) (v : Byte) :
    (s.setA v).stackPageHi = s.stackPageHi := rfl
@[simp] theorem State.setX_stackPageHi (s : State) (v : Byte) :
    (s.setX v).stackPageHi = s.stackPageHi := rfl
@[simp] theorem State.setY_stackPageHi (s : State) (v : Byte) :
    (s.setY v).stackPageHi = s.stackPageHi := rfl
@[simp] theorem State.setSp_stackPageHi (s : State) (v : Byte) :
    (s.setSp v).stackPageHi = s.stackPageHi := rfl
@[simp] theorem State.setPc_stackPageHi (s : State) (v : Addr) :
    (s.setPc v).stackPageHi = s.stackPageHi := rfl
@[simp] theorem State.setPs_stackPageHi (s : State) (v : PS) :
    (s.setPs v).stackPageHi = s.stackPageHi := rfl
@[simp] theorem State.setRun_stackPageHi (s : State) (v : RunState) :
    (s.setRun v).stackPageHi = s.stackPageHi := rfl
@[simp] theorem State.setXoutf_stackPageHi (s : State) (v : Bool) :
    (s.setXoutf v).stackPageHi = s.stackPageHi := rfl
@[simp] theorem State.setWindow_stackPageHi (s : State) (v : Window) :
    (s.setWindow v).stackPageHi = s.stackPageHi := rfl
@[simp] theorem State.setTick_stackPageHi (s : State) (v : Nat) :
    (s.setTick v).stackPageHi = s.stackPageHi := rfl
@[simp] theorem State.setScript_stackPageHi (s : State) (v : List EnvInput) :
    (s.setScript v).stackPageHi = s.stackPageHi := rfl

@[simp] theorem State.setA_zpPointer (s : State) (v : Byte) (z : Byte) :
    (s.setA v).zpPointer z = s.zpPointer z := rfl
@[simp] theorem State.setX_zpPointer (s : State) (v : Byte) (z : Byte) :
    (s.setX v).zpPointer z = s.zpPointer z := rfl
@[simp] theorem State.setY_zpPointer (s : State) (v : Byte) (z : Byte) :
    (s.setY v).zpPointer z = s.zpPointer z := rfl
@[simp] theorem State.setSp_zpPointer (s : State) (v : Byte) (z : Byte) :
    (s.setSp v).zpPointer z = s.zpPointer z := rfl
@[simp] theorem State.setPc_zpPointer (s : State) (v : Addr) (z : Byte) :
    (s.setPc v).zpPointer z = s.zpPointer z := rfl
@[simp] theorem State.setPs_zpPointer (s : State) (v : PS) (z : Byte) :
    (s.setPs v).zpPointer z = s.zpPointer z := rfl
@[simp] theorem State.setRun_zpPointer (s : State) (v : RunState) (z : Byte) :
    (s.setRun v).zpPointer z = s.zpPointer z := rfl
@[simp] theorem State.setXoutf_zpPointer (s : State) (v : Bool) (z : Byte) :
    (s.setXoutf v).zpPointer z = s.zpPointer z := rfl
@[simp] theorem State.setScript_zpPointer (s : State) (v : List EnvInput) (z : Byte) :
    (s.setScript v).zpPointer z = s.zpPointer z := rfl

end Sys2Proof.Machine
end

