-- ==== Sys2Proof/Laws/Ops.lean ====
section
/-! SUPPORT. For each shared operation, once, all it does to the part of the state that it changes; the fields it leaves
alone are in Laws/Frames.lean. -/

namespace Sys2Proof.Machine

/-! ### Bits -/

theorem getLsbD_bitMask (b : BitNo) (j : Nat) (h : j < 8) : (bitMask b).getLsbD j = decide (j = b.toNat) := by
  have hb := b.isLt
  have hj8 := h
  simp only [bitMask, BitVec.getLsbD_shiftLeft, BitVec.getLsbD_one]
  by_cases hj : j = b.toNat
  · simp [hj]; omega
  · simp [hj]; omega

theorem addrOf_toNat (h l : Byte) : (addrOf h l).toNat = 256 * h.toNat + l.toNat := by
  simp only [addrOf, BitVec.toNat_append]
  rw [← Nat.shiftLeft_add_eq_or_of_lt l.isLt, Nat.shiftLeft_eq]; omega

theorem zpAddr_toNat (z : Byte) : (zpAddr z).toNat = z.toNat := by simp [zpAddr, addrOf_toNat]

theorem addrOf_inj (h l h' l' : Byte) : addrOf h l = addrOf h' l' ↔ h = h' ∧ l = l' := by
  constructor
  · intro e
    have := congrArg BitVec.toNat e
    rw [addrOf_toNat, addrOf_toNat] at this
    have := l.isLt; have := l'.isLt
    exact ⟨BitVec.eq_of_toNat_eq (by omega), BitVec.eq_of_toNat_eq (by omega)⟩
  · rintro ⟨rfl, rfl⟩; rfl

theorem addrOf_hiByte_loByte (a : Addr) : addrOf (hiByte a) (loByte a) = a := by
  apply BitVec.eq_of_toNat_eq
  rw [addrOf_toNat]
  simp only [hiByte, loByte, BitVec.extractLsb'_toNat, Nat.shiftRight_eq_div_pow]
  have := a.isLt; omega

theorem hiByte_addrOf (h l : Byte) : hiByte (addrOf h l) = h := by
  apply BitVec.eq_of_toNat_eq
  simp only [hiByte, BitVec.extractLsb'_toNat, Nat.shiftRight_eq_div_pow, addrOf_toNat]
  have := h.isLt; have := l.isLt; omega

theorem loByte_addrOf (h l : Byte) : loByte (addrOf h l) = l := by
  apply BitVec.eq_of_toNat_eq
  simp only [loByte, BitVec.extractLsb'_toNat, Nat.shiftRight_eq_div_pow, addrOf_toNat]
  have := h.isLt; have := l.isLt; omega

/-! ### Flags -/

theorem PS.setNZ_eq_withNZ (p : PS) (v : Byte) : p.setNZ v = withNZ p v := by
  simp only [PS.setNZ, withNZ, PS.mk.injEq]
  refine ⟨?_, trivial, trivial, trivial, trivial, ?_, trivial⟩
  · rw [← BitVec.msb_eq_getLsbD_last, BitVec.msb_eq_decide]
  · rw [Bool.eq_iff_iff]; simp

theorem PS.ofByte_toByte (p : PS) (b : Bool) : PS.ofByte (p.toByte b) = p := by
  obtain ⟨n, v, t, d, i, z, c⟩ := p
  revert n v t d i z c b; decide

/-! ### Bytes of memory -/

theorem State.byteAt_setMem_set (s : State) (a : Addr) (v : Byte) (b : Addr) :
    (s.setMem (s.mem.set a.toNat v)).byteAt b = if b = a then v else s.byteAt b := by
  simp only [State.byteAt, State.setMem_mem, Memory.byte_set]
  split
  · rw [if_pos (BitVec.eq_of_toNat_eq (by assumption))]
  · rw [if_neg (fun h => by simp_all)]

/-- Where a write is ignored the byte stays. -/
theorem State.writtenByte_ignored (s : State) (a : Addr) (old v : Byte) (h : s.writable a = false) :
    s.writtenByte a old v = old := by
  have : writeRuleOf (kindAt s.cfg a) = .ignore := by simpa [State.writable] using h
  simp [State.writtenByte, this, writeResult]

/-- A RAM address is its own place. -/
theorem locate_ram (c : Config) (a : Addr) (h : mapAt c a = .ram) : locate c a = a := by simp [locate, h]

theorem kindAt_ram (c : Config) (a : Addr) (h : mapAt c a = .ram) : kindAt c a = .ram := by
  rw [kindAt, locate_ram c a h, h]

/-- RAM holds the byte written (R69). -/
theorem State.writtenByte_ram (s : State) (a : Addr) (old v : Byte) (h : kindAt s.cfg a = .ram) :
    s.writtenByte a old v = v := by simp [State.writtenByte, h, writeRuleOf, writeResult]

/-- All that a write does: the byte at the place that the address reaches, as the memory map says. -/
theorem State.byteAt_write (s : State) (a : Addr) (v : Byte) (b : Addr) :
    (s.write a v).byteAt b = storedByte s a v b (s.byteAt b) := by
  unfold State.write storedByte
  split
  · rw [State.byteAt_setMem_set]; split <;> simp_all
  · rename_i hw
    rw [s.writtenByte_ignored a _ v (by simpa using hw)]; simp

theorem State.write_storesByte (s : State) (a : Addr) (v : Byte) : StoresByte s (s.write a v) a v :=
  fun b => s.byteAt_write a v b

@[simp] theorem State.write_writable (s : State) (a : Addr) (v : Byte) (b : Addr) :
    (s.write a v).writable b = s.writable b := by simp [State.writable]

@[simp] theorem State.push_writable (s : State) (v : Byte) (b : Addr) :
    (s.push v).writable b = s.writable b := by simp [State.push]

@[simp] theorem State.push_writtenByte (s : State) (v : Byte) (b : Addr) (old w : Byte) :
    (s.push v).writtenByte b old w = s.writtenByte b old w := by simp [State.writtenByte]

/-- All that a push does to memory. -/
theorem State.byteAt_push (s : State) (v : Byte) (b : Addr) :
    (s.push v).byteAt b = storedByte s s.stackAddr v b (s.byteAt b) := by
  simp [State.push, State.byteAt_write]

@[simp] theorem State.push_sp (s : State) (v : Byte) : (s.push v).sp = s.sp - 1#8 := rfl

@[simp] theorem State.pulled_sp (s : State) : s.pulled.sp = s.sp + 1#8 := rfl

@[simp] theorem State.pulled_byteAt (s : State) (b : Addr) : s.pulled.byteAt b = s.byteAt b := rfl

@[simp] theorem State.pulled_stackPageHi (s : State) : s.pulled.stackPageHi = s.stackPageHi := rfl

@[simp] theorem State.pulled_read (s : State) (acc : Access) (b : Addr) : s.pulled.read acc b = s.read acc b := rfl

theorem State.pullByte_eq (s : State) (acc : Access) :
    s.pullByte acc = s.read acc (addrOf s.stackPageHi (s.sp + 1#8)) := rfl

@[simp] theorem State.advance_byteAt (s : State) (n : Nat) (b : Addr) : (s.advance n).byteAt b = s.byteAt b := rfl

@[simp] theorem State.advance_pc (s : State) (n : Nat) : (s.advance n).pc = s.pc + BitVec.ofNat 16 n := rfl

@[simp] theorem State.takeVector_byteAt (s : State) (vec b : Addr) : (s.takeVector vec).byteAt b = s.byteAt b := rfl

@[simp] theorem State.takeVector_latch (s : State) (vec : Addr) (l : BitLoc) :
    (s.takeVector vec).latch l = s.latch l := rfl

@[simp] theorem State.takeVector_read (s : State) (vec : Addr) (acc : Access) (b : Addr) :
    (s.takeVector vec).read acc b = s.read acc b := rfl

theorem State.takeVector_pc (s : State) (vec : Addr) :
    (s.takeVector vec).pc = addrOf (s.read .vectorHi (vec + 1#16)) (s.read .vectorLo vec) := rfl

/-! ### Control bits -/

theorem State.byteAt_setLatch (s : State) (l : BitLoc) (v : Bool) (b : Addr) :
    (s.setLatch l v).byteAt b = if b = l.addr then
      (if v then s.byteAt l.addr ||| bitMask l.bit else s.byteAt l.addr &&& ~~~bitMask l.bit) else s.byteAt b :=
  s.byteAt_setMem_set l.addr _ b

/-- All that setting a control bit does: that bit, and no other. -/
theorem State.latch_setLatch (s : State) (l : BitLoc) (v : Bool) (k : BitLoc) :
    (s.setLatch l v).latch k = if k = l then v else s.latch k := by
  have hk := k.bit.isLt
  simp only [State.latch, State.byteAt_setLatch]
  by_cases ha : k.addr = l.addr
  · by_cases hb : k.bit = l.bit
    · have : k = l := by cases k; cases l; simp_all
      subst this
      cases v <;> simp [getLsbD_bitMask _ _ (show k.bit.toNat < 8 by omega)]
    · have hne : k ≠ l := fun h => hb (by rw [h])
      have hbn : k.bit.toNat ≠ l.bit.toNat := fun h => hb (BitVec.eq_of_toNat_eq h)
      cases v <;> simp [hne, ha, hbn, getLsbD_bitMask _ _ (show k.bit.toNat < 8 by omega)]
      intro _; exact BitVec.lt_of_getLsbD (by assumption)
  · have hne : k ≠ l := fun h => ha (by rw [h])
    simp [ha, hne]

@[simp] theorem State.latch_setLatch_self (s : State) (l : BitLoc) (v : Bool) : (s.setLatch l v).latch l = v := by
  simp [State.latch_setLatch]

/-- Bit `j` of the byte at `a` is among the listed bits. -/
theorem getLsbD_maskAt (ls : List BitLoc) (a : Addr) (j : Nat) (h : j < 8) :
    (maskAt ls a).getLsbD j = true ↔ ∃ l ∈ ls, l.addr = a ∧ l.bit.toNat = j := by
  induction ls with
  | nil => simp [maskAt]
  | cons l ls ih =>
    have step : maskAt (l :: ls) a = if l.addr = a then maskAt ls a ||| bitMask l.bit else maskAt ls a := rfl
    rw [step]
    by_cases ha : l.addr = a
    · simp only [if_pos ha, BitVec.getLsbD_or, Bool.or_eq_true, ih, getLsbD_bitMask _ _ h, decide_eq_true_eq]
      constructor
      · rintro (⟨k, hk, h1, h2⟩ | rfl)
        · exact ⟨k, List.mem_cons_of_mem _ hk, h1, h2⟩
        · exact ⟨l, List.mem_cons_self, ha, rfl⟩
      · rintro ⟨k, hk, h1, h2⟩
        rcases List.mem_cons.mp hk with rfl | hk
        · exact .inr h2.symm
        · exact .inl ⟨k, hk, h1, h2⟩
    · simp only [if_neg ha, ih]
      constructor
      · rintro ⟨k, hk, h1, h2⟩; exact ⟨k, List.mem_cons_of_mem _ hk, h1, h2⟩
      · rintro ⟨k, hk, h1, h2⟩
        rcases List.mem_cons.mp hk with rfl | hk
        · exact absurd h1 ha
        · exact ⟨k, hk, h1, h2⟩

/-! ### Reads -/

/-- With no request bit unsettled, an address that reads back what it holds (RAM, ROM) gives the byte held. -/
theorem State.read_held (s : State) (acc : Access) (a : Addr) (h : readRuleOf (kindAt s.cfg a) = .held)
    (hf : s.window.fresh = []) : s.read acc a = s.byteAt (locate s.cfg a) := by
  have hm : s.freshMask (locate s.cfg a) = 0x00#8 := by simp [State.freshMask, hf, maskAt]
  simp [State.read, hm, State.sourceByte, h]

/-- With no request bit unsettled, RAM gives the stored byte. -/
theorem State.read_ram (s : State) (acc : Access) (a : Addr) (h : mapAt s.cfg a = .ram)
    (hf : s.window.fresh = []) : s.read acc a = s.byteAt a := by
  rw [s.read_held acc a (by rw [kindAt_ram _ _ h]; rfl) hf, locate_ram _ _ h]

/-- Bit `j` of what a read gives: the source's bit, or the draw where the request bit is unsettled. -/
theorem State.getLsbD_read (s : State) (acc : Access) (a : Addr) (j : Nat) (h : j < 8) :
    (s.read acc a).getLsbD j = if (s.freshMask (locate s.cfg a)).getLsbD j then (Config.freeByte s.tick (.request acc)).getLsbD j
      else (s.sourceByte acc a).getLsbD j := by
  simp only [State.read]
  by_cases hm : s.freshMask (locate s.cfg a) = 0x00#8
  · simp [hm]
  · rw [if_neg hm]
    simp only [BitVec.getLsbD_or, BitVec.getLsbD_and, BitVec.getLsbD_not, h, decide_true, Bool.true_and]
    cases (s.freshMask (locate s.cfg a)).getLsbD j <;> simp

/-! ### The canonical form -/

theorem State.setLatch_wf (s : State) (l : BitLoc) (v : Bool) (h : Memory.wf s.mem = true) :
    Memory.wf (s.setLatch l v).mem = true := Memory.set_wf _ _ _ h

theorem State.write_wf (s : State) (a : Addr) (v : Byte) (h : Memory.wf s.mem = true) :
    Memory.wf (s.write a v).mem = true := by
  unfold State.write
  split
  · exact Memory.set_wf _ _ _ h
  · exact h

theorem State.push_wf (s : State) (v : Byte) (h : Memory.wf s.mem = true) : Memory.wf (s.push v).mem = true :=
  State.write_wf s _ v h

theorem State.saveFrame_wf (s : State) (ret : Addr) (b newI : Bool) (h : Memory.wf s.mem = true) :
    Memory.wf (s.saveFrame ret b newI).mem = true :=
  State.push_wf _ _ (State.push_wf _ _ (State.push_wf _ _ h))

theorem State.acknowledge_wf (src : IrqSource) (s : State) (h : Memory.wf s.mem = true) :
    Memory.wf (State.acknowledge src s).mem = true := by
  unfold State.acknowledge
  split
  · exact State.setLatch_wf _ _ _ h
  · exact h

theorem State.enterInterrupt_wf (s : State) (src : IrqSource) (h : Memory.wf s.mem = true) :
    Memory.wf (s.enterInterrupt src).mem = true := State.acknowledge_wf _ _ (State.saveFrame_wf _ _ _ _ h)

theorem State.enterBrk_wf (s : State) (h : Memory.wf s.mem = true) : Memory.wf s.enterBrk.mem = true :=
  State.saveFrame_wf s s.brkReturn true (!s.brkBugHolds) h

theorem State.accOut_wf (s : State) (r : Byte) (h : Memory.wf s.mem = true) : Memory.wf (s.accOut r).mem = true := by
  unfold State.accOut
  split
  · exact State.write_wf _ _ _ h
  · exact h

theorem State.put_wf (o : Operand) (r : Byte) (s : State) (h : Memory.wf s.mem = true) :
    Memory.wf (o.put r s).mem = true := by
  cases o
  · exact h
  · exact h
  · exact State.write_wf _ _ _ h

theorem State.readModifyWrite_wf (f : Byte → PS → Byte × PS) (o : Operand) (s : State) (h : Memory.wf s.mem = true) :
    Memory.wf (readModifyWrite f o s).mem = true := State.put_wf o _ s h

theorem State.aluOp_wf (f : Byte → Byte → PS → Byte × PS) (o : Operand) (s : State) (h : Memory.wf s.mem = true) :
    Memory.wf (aluOp f o s).mem = true := State.accOut_wf s _ h

theorem State.loadA_wf (o : Operand) (s : State) (h : Memory.wf s.mem = true) :
    Memory.wf (loadA o s).mem = true := State.accOut_wf s _ h

theorem State.call_wf (n : Nat) (g : State → Addr) (s : State) (h : Memory.wf s.mem = true) :
    Memory.wf (call n g s).mem = true := State.push_wf _ _ (State.push_wf _ _ h)

theorem State.multiply_wf (z : Byte) (s : State) (h : Memory.wf s.mem = true) :
    Memory.wf (multiply z s).mem = true := State.push_wf _ _ h

theorem State.divide_wf (z : Byte) (s : State) (h : Memory.wf s.mem = true) :
    Memory.wf (divide z s).mem = true := by
  simp only [divide]
  split
  · exact State.push_wf _ _ h
  · exact State.push_wf _ _ h

theorem State.deviceRequest_wf (s : State) (k : Nat) (h : Memory.wf s.mem = true) :
    Memory.wf (s.deviceRequest k).mem = true := by
  unfold State.deviceRequest
  split
  · exact State.setLatch_wf _ _ _ h
  · exact h

theorem State.applyInput_wf (s : State) (e : EnvInput) (h : Memory.wf s.mem = true) :
    Memory.wf (s.applyInput e).mem = true := by
  unfold State.applyInput
  generalize e.requests = l
  induction l generalizing s with
  | nil => exact h
  | cons k l ih => exact ih _ (State.deviceRequest_wf s k h)

theorem State.resetSources_wf (l : List IrqSource) (s : State) (h : Memory.wf s.mem = true) :
    Memory.wf (l.foldl State.resetSource s).mem = true := by
  induction l generalizing s with
  | nil => exact h
  | cons k l ih => exact ih _ (State.setLatch_wf _ _ _ (State.setLatch_wf _ _ _ h))

theorem State.resetEvent_wf (s : State) (h : Memory.wf s.mem = true) : Memory.wf s.resetEvent.mem = true := by
  refine State.resetSources_wf _ _ ?_
  split
  · exact State.setLatch_wf _ _ _ h
  · exact h

/-! ### Results -/

theorem accIn_eq (s : State) : s.accIn = accOperand s := by simp [State.accIn, accOperand]

/-- All that the result of a T-sensitive instruction does (R201). -/
theorem State.accOut_spec (s : State) (r : Byte) : AccResult s (s.accOut r) r := by
  constructor <;> intro h <;> simp [State.accOut, h, SameMemory, State.write_storesByte]

/-- All that writing the result of a read-modify-write instruction does (R73, R122). -/
theorem State.put_spec (o : Operand) (r : Byte) (s : State) (h : ∀ v, o ≠ .imm v) : OperandResult o s (o.put r s) r := by
  cases o with
  | imm v => exact absurd rfl (h v)
  | acc => simp [OperandResult, Operand.put, SameMemory]
  | mem m => simp [OperandResult, Operand.put, State.write_storesByte]

/-! ### Taking an exception and returning from one -/

/-- All that saving the frame does to memory: PC_H, PC_L and PS, in that order. -/
theorem State.saveFrame_stores (s : State) (ret : Addr) (b newI : Bool) :
    StoresThree s (s.saveFrame ret b newI) s.stackAddr (hiByte ret) (s.push (hiByte ret)).stackAddr (loByte ret)
      ((s.push (hiByte ret)).push (loByte ret)).stackAddr (s.ps.toByte b) := by
  intro a
  simp [State.saveFrame, State.byteAt_push, storedByte]

@[simp] theorem State.saveFrame_ps (s : State) (ret : Addr) (b newI : Bool) :
    (s.saveFrame ret b newI).ps = { s.ps with i := newI } := rfl

@[simp] theorem State.saveFrame_sp (s : State) (ret : Addr) (b newI : Bool) :
    (s.saveFrame ret b newI).sp = s.sp - 1#8 - 1#8 - 1#8 := rfl

/-- All that taking an exception does, in terms of its parts. -/
theorem State.takeException_eq (s : State) (ret : Addr) (b newI : Bool) (ack : State → State) (vec : Addr) :
    s.takeException ret b newI ack vec = (ack (s.saveFrame ret b newI)).takeVector vec := rfl

theorem State.stackSlot_zero (s : State) : s.stackSlot 0 = s.stackAddr := by
  simp [State.stackSlot, State.stackAddr]

/-- The stack page depends on the Stack Page Selection Bit and the parameters only. -/
theorem State.stackPageHi_congr {s t : State} (hc : t.cfg = s.cfg)
    (h : s.cfg.hasSps = true → t.latch (spsLoc s.cfg) = s.latch (spsLoc s.cfg)) : t.stackPageHi = s.stackPageHi := by
  unfold State.stackPageHi
  rw [hc]
  by_cases hs : s.cfg.hasSps = true
  · rw [h hs]
  · simp [hs]

/-- On a plain stack a push stores its byte at the stack address. -/
theorem State.byteAt_push_plain {n : Nat} {s : State} (h : PlainStack (n + 1) s) (v : Byte) (b : Addr) :
    (s.push v).byteAt b = if b = s.stackAddr then v else s.byteAt b := by
  have hr : mapAt s.cfg s.stackAddr = .ram := by simpa [State.stackSlot_zero] using (h.2 0 (by omega)).1
  rw [State.byteAt_push, storedByte, locate_ram _ _ hr, s.writtenByte_ram _ _ _ (kindAt_ram _ _ hr)]

/-- On a plain stack a push does not move the page. -/
theorem State.stackPageHi_push_plain {n : Nat} {s : State} (h : PlainStack (n + 1) s) (v : Byte) :
    (s.push v).stackPageHi = s.stackPageHi := by
  refine State.stackPageHi_congr (by simp) (fun hs => ?_)
  have : s.stackAddr ≠ (spsLoc s.cfg).addr := by simpa [State.stackSlot_zero] using (h.2 0 (by omega)).2 hs
  simp [State.latch, State.byteAt_push_plain h, this.symm]

/-- After a push the next byte pushed is the one after it. -/
theorem State.stackSlot_push_plain {n : Nat} {s : State} (h : PlainStack (n + 1) s) (v : Byte) (k : Nat) :
    (s.push v).stackSlot k = s.stackSlot (k + 1) := by
  simp only [State.stackSlot, State.stackPageHi_push_plain h, State.push_sp]
  congr 1
  apply BitVec.eq_of_toNat_eq
  simp only [BitVec.toNat_sub, BitVec.toNat_ofNat]
  omega

/-- A stack plain for one byte more is plain after the push of that byte. -/
theorem PlainStack.push {n : Nat} {s : State} (h : PlainStack (n + 1) s) (v : Byte) : PlainStack n (s.push v) :=
  ⟨by simpa using h.1, fun k hk => by
    rw [State.stackSlot_push_plain h]; simpa using h.2 (k + 1) (by omega)⟩

theorem PlainStack.mono {m n : Nat} {s : State} (h : PlainStack n s) (hm : m ≤ n) : PlainStack m s :=
  ⟨h.1, fun k hk => h.2 k (by omega)⟩

/-- On a plain stack two pushes store their bytes at the first two places. -/
theorem State.byteAt_push_push_plain {n : Nat} {s : State} (h : PlainStack (n + 2) s) (v w : Byte) (b : Addr) :
    ((s.push v).push w).byteAt b =
      if b = s.stackSlot 1 then w else if b = s.stackSlot 0 then v else s.byteAt b := by
  rw [State.byteAt_push_plain (h.push v), ← State.stackSlot_zero, State.stackSlot_push_plain h,
    State.byteAt_push_plain h, State.stackSlot_zero]

/-- On a plain stack the frame of an exception is PC_H, PC_L and PS at the first three places. -/
theorem State.byteAt_saveFrame_plain {s : State} (h : PlainStack 3 s) (ret : Addr) (b newI : Bool) (x : Addr) :
    (s.saveFrame ret b newI).byteAt x =
      if x = s.stackSlot 2 then s.ps.toByte b else if x = s.stackSlot 1 then loByte ret
      else if x = s.stackSlot 0 then hiByte ret else s.byteAt x := by
  have h1 : PlainStack 2 (s.push (hiByte ret)) := h.push _
  have := State.byteAt_push_push_plain h1 (loByte ret) (s.ps.toByte b) x
  rw [State.stackSlot_push_plain h, State.stackSlot_push_plain h, State.byteAt_push_plain h,
    ← State.stackSlot_zero] at this
  exact this

/-- A state that pulls from where a plain stack was pushed reads the bytes held there. -/
theorem State.read_plain {n : Nat} {s t : State} (h : PlainStack n s) (hc : t.cfg = s.cfg)
    (hw : t.window.fresh = s.window.fresh) (k : Nat) (hk : k < n) (acc : Access) :
    t.read acc (s.stackSlot k) = t.byteAt (s.stackSlot k) :=
  t.read_ram acc _ (by rw [hc]; exact (h.2 k hk).1) (by rw [hw]; exact h.1)

/-- All that returning from an exception does, in terms of the three bytes above S (R263, R320). -/
theorem State.returnFromException_eq (s : State) :
    s.returnFromException =
      ((s.setSp (s.sp + 3#8)).setPs (PS.ofByte (s.read .pull1 (addrOf s.stackPageHi (s.sp + 1#8))))).setPc
        (addrOf (s.read .pull3 (addrOf s.stackPageHi (s.sp + 3#8)))
          (s.read .pull2 (addrOf s.stackPageHi (s.sp + 2#8)))) := by
  have h2 : s.sp + 1#8 + 1#8 = s.sp + 2#8 := by bv_omega
  have h3 : s.sp + 2#8 + 1#8 = s.sp + 3#8 := by bv_omega
  simp [State.returnFromException, State.pullByte_eq, h2, h3]
  apply State.eq_of_fields <;> simp [h2, h3]

/-- Returning from an exception whose frame stands above S restores PC, PS and S. -/
theorem State.returnFromException_plain {s t : State} {ret : Addr} {b : Bool} (h : PlainStack 3 s)
    (hc : t.cfg = s.cfg) (hw : t.window.fresh = s.window.fresh) (hp : t.stackPageHi = s.stackPageHi)
    (hsp : t.sp = s.sp - 3#8) (h0 : t.byteAt (s.stackSlot 0) = hiByte ret)
    (h1 : t.byteAt (s.stackSlot 1) = loByte ret) (h2 : t.byteAt (s.stackSlot 2) = s.ps.toByte b) :
    t.returnFromException.pc = ret ∧ t.returnFromException.ps = s.ps ∧ t.returnFromException.sp = s.sp := by
  have e1 : addrOf t.stackPageHi (t.sp + 1#8) = s.stackSlot 2 := by
    rw [hp, hsp, State.stackSlot, show s.sp - 3#8 + 1#8 = s.sp - 2#8 by bv_omega]
  have e2 : addrOf t.stackPageHi (t.sp + 2#8) = s.stackSlot 1 := by
    rw [hp, hsp, State.stackSlot, show s.sp - 3#8 + 2#8 = s.sp - 1#8 by bv_omega]
  have e3 : addrOf t.stackPageHi (t.sp + 3#8) = s.stackSlot 0 := by
    rw [hp, hsp, State.stackSlot, show s.sp - 3#8 + 3#8 = s.sp - BitVec.ofNat 8 0 by simp]
  have e4 : t.sp + 3#8 = s.sp := by rw [hsp]; simp
  rw [State.returnFromException_eq, e1, e2, e3, e4, State.read_plain h hc hw 2 (by omega),
    State.read_plain h hc hw 1 (by omega), State.read_plain h hc hw 0 (by omega), h0, h1, h2]
  simp [PS.ofByte_toByte, addrOf_hiByte_loByte]

/-- The places of the bytes pushed one after the other are different. -/
theorem State.stackSlot_ne (s : State) (j k : Nat) (hj : j < 256) (hk : k < 256) (h : j ≠ k) :
    s.stackSlot j ≠ s.stackSlot k := by
  intro e
  have := congrArg BitVec.toNat ((addrOf_inj _ _ _ _).mp e).2
  simp only [BitVec.toNat_sub, BitVec.toNat_ofNat] at this
  have := s.sp.isLt
  omega

/-- On a plain stack the acknowledge of an interrupt that spares the frame leaves it, and the stack page, alone. -/
theorem State.enterInterrupt_frame {s : State} {src : IrqSource} (h : PlainStack 3 s)
    (ha : AcknowledgeSparesTheFrame s src) :
    (s.enterInterrupt src).byteAt (s.stackSlot 0) = hiByte s.pc ∧
    (s.enterInterrupt src).byteAt (s.stackSlot 1) = loByte s.pc ∧
    (s.enterInterrupt src).byteAt (s.stackSlot 2) = s.ps.toByte false ∧
    (s.enterInterrupt src).stackPageHi = s.stackPageHi := by
  have hs : ∀ k, k < 3 → (s.enterInterrupt src).byteAt (s.stackSlot k) =
      (s.saveFrame s.pc false true).byteAt (s.stackSlot k) := by
    intro k hk
    simp only [State.enterInterrupt, State.takeException_eq, State.takeVector_byteAt, State.acknowledge]
    split
    · rename_i hc
      rw [State.byteAt_setLatch, if_neg]
      rcases ha with ha | ha
      · simp [ha] at hc
      · exact ha.1 k hk
    · rfl
  have n := s.stackSlot_ne
  refine ⟨?_, ?_, ?_, State.stackPageHi_congr (by simp) (fun hsps => ?_)⟩
  · rw [hs 0 (by omega), State.byteAt_saveFrame_plain h, if_neg (n 0 2 (by omega) (by omega) (by omega)),
      if_neg (n 0 1 (by omega) (by omega) (by omega)), if_pos rfl]
  · rw [hs 1 (by omega), State.byteAt_saveFrame_plain h, if_neg (n 1 2 (by omega) (by omega) (by omega)), if_pos rfl]
  · rw [hs 2 (by omega), State.byteAt_saveFrame_plain h, if_pos rfl]
  · have hf : (s.saveFrame s.pc false true).latch (spsLoc s.cfg) = s.latch (spsLoc s.cfg) := by
      simp only [State.latch, State.byteAt_saveFrame_plain h]
      rw [if_neg ((h.2 2 (by omega)).2 hsps).symm, if_neg ((h.2 1 (by omega)).2 hsps).symm,
        if_neg ((h.2 0 (by omega)).2 hsps).symm]
    simp only [State.enterInterrupt, State.takeException_eq, State.takeVector_latch, State.acknowledge]
    split
    · rename_i hc
      rw [State.latch_setLatch, if_neg, hf]
      rcases ha with ha | ha
      · simp [ha] at hc
      · exact (ha.2 hsps).symm
    · exact hf

/-- On a plain stack BRK leaves its frame above S, on the same page. -/
theorem State.enterBrk_frame {s : State} (h : PlainStack 3 s) :
    s.enterBrk.byteAt (s.stackSlot 0) = hiByte s.brkReturn ∧ s.enterBrk.byteAt (s.stackSlot 1) = loByte s.brkReturn ∧
    s.enterBrk.byteAt (s.stackSlot 2) = s.ps.toByte true ∧ s.enterBrk.stackPageHi = s.stackPageHi := by
  have n := s.stackSlot_ne
  have hs : ∀ x, s.enterBrk.byteAt x = (s.saveFrame s.brkReturn true (!s.brkBugHolds)).byteAt x := fun _ => rfl
  refine ⟨?_, ?_, ?_, State.stackPageHi_congr (by simp) (fun hsps => ?_)⟩
  · rw [hs, State.byteAt_saveFrame_plain h, if_neg (n 0 2 (by omega) (by omega) (by omega)),
      if_neg (n 0 1 (by omega) (by omega) (by omega)), if_pos rfl]
  · rw [hs, State.byteAt_saveFrame_plain h, if_neg (n 1 2 (by omega) (by omega) (by omega)), if_pos rfl]
  · rw [hs, State.byteAt_saveFrame_plain h, if_pos rfl]
  · simp only [State.latch, hs, State.byteAt_saveFrame_plain h]
    rw [if_neg ((h.2 2 (by omega)).2 hsps).symm, if_neg ((h.2 1 (by omega)).2 hsps).symm,
      if_neg ((h.2 0 (by omega)).2 hsps).symm]

/-! ### Interrupts -/

/-- The first source, numbered from `k`, that `f` holds of, and no source before it (R317). -/
theorem firstSource_some (f : Nat → IrqSource → Bool) (l : List IrqSource) (k j : Nat) (src : IrqSource) :
    firstSource f k l = some (j, src) ↔
      k ≤ j ∧ l[j - k]? = some src ∧ f j src = true ∧ ∀ i other, k ≤ i → i < j → l[i - k]? = some other →
        f i other = false := by
  induction l generalizing k with
  | nil => simp [firstSource]
  | cons a l ih =>
    simp only [firstSource]
    by_cases hf : f k a
    · simp only [hf, if_true, Option.some.injEq, Prod.mk.injEq]
      constructor
      · rintro ⟨rfl, rfl⟩
        exact ⟨Nat.le_refl _, by simp, hf, fun i o h1 h2 => by omega⟩
      · rintro ⟨h1, h2, h3, h4⟩
        by_cases hjk : j = k
        · subst hjk; simpa using h2
        · have := h4 k a (Nat.le_refl _) (by omega) (by simp)
          simp [hf] at this
    · rw [if_neg hf, ih]
      constructor
      · rintro ⟨h1, h2, h3, h4⟩
        refine ⟨by omega, ?_, h3, ?_⟩
        · rw [show j - k = (j - (k + 1)) + 1 by omega, List.getElem?_cons_succ]; exact h2
        · intro i o hi1 hi2 ho
          by_cases hik : i = k
          · subst hik
            simp at ho
            subst ho
            simpa using hf
          · refine h4 i o (by omega) hi2 ?_
            rw [show i - k = (i - (k + 1)) + 1 by omega, List.getElem?_cons_succ] at ho; exact ho
      · rintro ⟨h1, h2, h3, h4⟩
        by_cases hjk : j = k
        · subst hjk
          simp at h2
          subst h2
          exact absurd h3 hf
        · refine ⟨by omega, ?_, h3, ?_⟩
          · rw [show j - k = (j - (k + 1)) + 1 by omega, List.getElem?_cons_succ] at h2; exact h2
          · intro i o hi1 hi2 ho
            refine h4 i o (by omega) hi2 ?_
            rw [show i - k = (i - (k + 1)) + 1 by omega, List.getElem?_cons_succ]; exact ho

theorem firstSource_none (f : Nat → IrqSource → Bool) (l : List IrqSource) (k : Nat) :
    firstSource f k l = none ↔ ∀ i other, k ≤ i → l[i - k]? = some other → f i other = false := by
  induction l generalizing k with
  | nil => simp [firstSource]
  | cons a l ih =>
    simp only [firstSource]
    by_cases hf : f k a
    · simp only [hf, if_true]
      constructor
      · intro h; cases h
      · intro h
        have := h k a (Nat.le_refl _) (by simp)
        simp [hf] at this
    · rw [if_neg hf, ih]
      constructor
      · intro h i o hi ho
        by_cases hik : i = k
        · subst hik
          simp at ho
          subst ho
          simpa using hf
        · refine h i o (by omega) ?_
          rw [show i - k = (i - (k + 1)) + 1 by omega, List.getElem?_cons_succ] at ho; exact ho
      · intro h i o hi ho
        refine h i o (by omega) ?_
        rw [show i - k = (i - (k + 1)) + 1 by omega, List.getElem?_cons_succ]; exact ho

/-- Where a source is acceptable, the boundary enters it or one of higher priority. -/
theorem State.nextInterrupt_of_acceptable (s : State) (k : Nat) (src : IrqSource) (h1 : s.cfg.sources[k]? = some src)
    (h2 : s.acceptable k src = true) :
    ∃ j other, s.nextInterrupt = some (j, other) ∧ j ≤ k ∧ s.cfg.sources[j]? = some other := by
  cases hn : s.nextInterrupt with
  | none =>
    have := (firstSource_none _ _ _).mp hn k src (by omega) (by simpa using h1)
    rw [h2] at this; cases this
  | some p =>
    obtain ⟨j, o⟩ := p
    obtain ⟨a, b, c, d⟩ := (firstSource_some _ _ _ _ _).mp hn
    refine ⟨j, o, rfl, ?_, by simpa using b⟩
    by_contra hlt
    have := d k src (by omega) (by omega) (by simpa using h1)
    rw [h2] at this; cases this

/-- While I is 1 no interrupt is entered (R312). -/
theorem State.nextInterrupt_masked (s : State) (h : s.ps.i = true) : s.nextInterrupt = none :=
  (firstSource_none _ _ _).mpr (fun i o _ _ => by simp [State.acceptable, h])

/-- When the BRK bug holds, with the request bits as the acceptance condition sees them (R333, log entry 13). -/
theorem State.brkBugHolds_iff (s : State) :
    s.brkBugHolds = true ↔ s.cfg.part.brkBug = true ∧ s.ps.i = true ∧
      ∃ k src, s.cfg.sources[k]? = some src ∧ s.requestSeen k src = true ∧ s.latch src.enable = true := by
  simp only [State.brkBugHolds, Bool.and_eq_true, and_assoc, and_congr_right_iff]
  intro _ _
  rw [← not_iff_not, Bool.not_eq_true, Option.isSome_eq_false_iff, Option.isNone_iff_eq_none, firstSource_none]
  simp

/-- The request bit as the acceptance condition sees it, with nothing unsettled or forced. -/
theorem State.requestSeen_settled (s : State) (k : Nat) (src : IrqSource) (h1 : s.window.fresh = [])
    (h2 : s.window.forced = []) : s.requestSeen k src = s.latch src.request := by
  simp [State.requestSeen, h1, h2]

/-- Which sources `sourcesWhere` lists. -/
theorem mem_sourcesWhere (f : IrqSource → Bool) (l : List IrqSource) (k j : Nat) :
    j ∈ sourcesWhere f k l ↔ k ≤ j ∧ ∃ src, l[j - k]? = some src ∧ f src = true := by
  induction l generalizing k with
  | nil => simp [sourcesWhere]
  | cons a l ih =>
    have tail : (k + 1 ≤ j ∧ ∃ src, l[j - (k + 1)]? = some src ∧ f src = true) ↔
        k < j ∧ ∃ src, (a :: l)[j - k]? = some src ∧ f src = true := by
      constructor
      · rintro ⟨h1, h2⟩
        refine ⟨by omega, ?_⟩
        rw [show j - k = (j - (k + 1)) + 1 by omega, List.getElem?_cons_succ]; exact h2
      · rintro ⟨h1, h2⟩
        refine ⟨by omega, ?_⟩
        rw [show j - k = (j - (k + 1)) + 1 by omega, List.getElem?_cons_succ] at h2; exact h2
    simp only [sourcesWhere]
    by_cases hf : f a
    · simp only [hf, if_true, List.mem_cons, ih, tail]
      constructor
      · rintro (rfl | ⟨h1, h2⟩)
        · exact ⟨Nat.le_refl _, a, by simp, hf⟩
        · exact ⟨by omega, h2⟩
      · rintro ⟨h1, h2⟩
        by_cases hjk : j = k
        · exact .inl hjk
        · exact .inr ⟨by omega, h2⟩
    · simp only [hf, if_false, ih, tail, Bool.false_eq_true]
      constructor
      · rintro ⟨h1, h2⟩; exact ⟨by omega, h2⟩
      · rintro ⟨h1, src, h2, h3⟩
        by_cases hjk : j = k
        · subst hjk
          simp at h2
          subst h2
          exact absurd h3 hf
        · exact ⟨by omega, src, h2, h3⟩

end Sys2Proof.Machine
end

