-- ==== Sys2Proof/Laws/Exec.lean ====
section
/-! SUPPORT. The shape of every instruction's meaning, once per mnemonic with several forms: which shared operation it
is, on which operand. -/

namespace Sys2Proof.Machine

theorem exec_lda {i : Instr} (h : i.mnemonic = .lda) :
    ∃ o, i.operand? = some o ∧ ∀ s, exec i s = .next ((loadA o s).advance i.length) := by
  cases i <;> first | (cases h; done) | exact ⟨_, rfl, fun _ => rfl⟩

theorem exec_ldx {i : Instr} (h : i.mnemonic = .ldx) :
    ∃ o, i.operand? = some o ∧ ∀ s, exec i s = .next ((loadX o s).advance i.length) := by
  cases i <;> first | (cases h; done) | exact ⟨_, rfl, fun _ => rfl⟩

theorem exec_ldy {i : Instr} (h : i.mnemonic = .ldy) :
    ∃ o, i.operand? = some o ∧ ∀ s, exec i s = .next ((loadY o s).advance i.length) := by
  cases i <;> first | (cases h; done) | exact ⟨_, rfl, fun _ => rfl⟩

theorem exec_sta {i : Instr} (h : i.mnemonic = .sta) :
    ∃ o, i.operand? = some (.mem o) ∧ ∀ s, exec i s = .next ((storeByte o s.a s).advance i.length) := by
  cases i <;> first | (cases h; done) | exact ⟨_, rfl, fun _ => rfl⟩

theorem exec_stx {i : Instr} (h : i.mnemonic = .stx) :
    ∃ o, i.operand? = some (.mem o) ∧ ∀ s, exec i s = .next ((storeByte o s.x s).advance i.length) := by
  cases i <;> first | (cases h; done) | exact ⟨_, rfl, fun _ => rfl⟩

theorem exec_sty {i : Instr} (h : i.mnemonic = .sty) :
    ∃ o, i.operand? = some (.mem o) ∧ ∀ s, exec i s = .next ((storeByte o s.y s).advance i.length) := by
  cases i <;> first | (cases h; done) | exact ⟨_, rfl, fun _ => rfl⟩

theorem exec_adc {i : Instr} (h : i.mnemonic = .adc) :
    ∃ o, i.operand? = some o ∧ ∀ s, exec i s = .next ((aluOp (addWithCarry s.tick) o s).advance i.length) := by
  cases i <;> first | (cases h; done) | exact ⟨_, rfl, fun _ => rfl⟩

theorem exec_sbc {i : Instr} (h : i.mnemonic = .sbc) :
    ∃ o, i.operand? = some o ∧ ∀ s, exec i s = .next ((aluOp (subWithCarry s.tick) o s).advance i.length) := by
  cases i <;> first | (cases h; done) | exact ⟨_, rfl, fun _ => rfl⟩

theorem exec_and {i : Instr} (h : i.mnemonic = .and) :
    ∃ o, i.operand? = some o ∧ ∀ s, exec i s = .next ((aluOp logicAnd o s).advance i.length) := by
  cases i <;> first | (cases h; done) | exact ⟨_, rfl, fun _ => rfl⟩

theorem exec_ora {i : Instr} (h : i.mnemonic = .ora) :
    ∃ o, i.operand? = some o ∧ ∀ s, exec i s = .next ((aluOp logicOr o s).advance i.length) := by
  cases i <;> first | (cases h; done) | exact ⟨_, rfl, fun _ => rfl⟩

theorem exec_eor {i : Instr} (h : i.mnemonic = .eor) :
    ∃ o, i.operand? = some o ∧ ∀ s, exec i s = .next ((aluOp logicXor o s).advance i.length) := by
  cases i <;> first | (cases h; done) | exact ⟨_, rfl, fun _ => rfl⟩

theorem exec_cmp {i : Instr} (h : i.mnemonic = .cmp) :
    ∃ o, i.operand? = some o ∧ ∀ s, exec i s = .next ((compareWith s.accIn o s).advance i.length) := by
  cases i <;> first | (cases h; done) | exact ⟨_, rfl, fun _ => rfl⟩

theorem exec_cpx {i : Instr} (h : i.mnemonic = .cpx) :
    ∃ o, i.operand? = some o ∧ ∀ s, exec i s = .next ((compareWith s.x o s).advance i.length) := by
  cases i <;> first | (cases h; done) | exact ⟨_, rfl, fun _ => rfl⟩

theorem exec_cpy {i : Instr} (h : i.mnemonic = .cpy) :
    ∃ o, i.operand? = some o ∧ ∀ s, exec i s = .next ((compareWith s.y o s).advance i.length) := by
  cases i <;> first | (cases h; done) | exact ⟨_, rfl, fun _ => rfl⟩

theorem exec_bit {i : Instr} (h : i.mnemonic = .bit) :
    ∃ o, i.operand? = some o ∧ ∀ s, exec i s = .next ((testBits o s).advance i.length) := by
  cases i <;> first | (cases h; done) | exact ⟨_, rfl, fun _ => rfl⟩

theorem exec_tst {i : Instr} (h : i.mnemonic = .tst) :
    ∃ o, i.operand? = some o ∧ ∀ s, exec i s = .next ((testByte o s).advance i.length) := by
  cases i <;> first | (cases h; done) | exact ⟨_, rfl, fun _ => rfl⟩

theorem exec_inc {i : Instr} (h : i.mnemonic = .inc) :
    ∃ o, i.operand? = some o ∧ (∀ v, o ≠ .imm v) ∧ ∀ s, exec i s = .next ((readModifyWrite increment o s).advance i.length) := by
  cases i <;> first | (cases h; done) | exact ⟨_, rfl, nofun, fun _ => rfl⟩

theorem exec_dec {i : Instr} (h : i.mnemonic = .dec) :
    ∃ o, i.operand? = some o ∧ (∀ v, o ≠ .imm v) ∧ ∀ s, exec i s = .next ((readModifyWrite decrement o s).advance i.length) := by
  cases i <;> first | (cases h; done) | exact ⟨_, rfl, nofun, fun _ => rfl⟩

theorem exec_com {i : Instr} (h : i.mnemonic = .com) :
    ∃ o, i.operand? = some o ∧ (∀ v, o ≠ .imm v) ∧ ∀ s, exec i s = .next ((readModifyWrite complement o s).advance i.length) := by
  cases i <;> first | (cases h; done) | exact ⟨_, rfl, nofun, fun _ => rfl⟩

theorem exec_rrf {i : Instr} (h : i.mnemonic = .rrf) :
    ∃ o, i.operand? = some o ∧ (∀ v, o ≠ .imm v) ∧ ∀ s, exec i s = .next ((readModifyWrite rotateNibbles o s).advance i.length) := by
  cases i <;> first | (cases h; done) | exact ⟨_, rfl, nofun, fun _ => rfl⟩

theorem exec_asl {i : Instr} (h : i.mnemonic = .asl) :
    ∃ o, i.operand? = some o ∧ (∀ v, o ≠ .imm v) ∧ ∀ s, exec i s = .next ((readModifyWrite shiftLeft o s).advance i.length) := by
  cases i <;> first | (cases h; done) | exact ⟨_, rfl, nofun, fun _ => rfl⟩

theorem exec_lsr {i : Instr} (h : i.mnemonic = .lsr) :
    ∃ o, i.operand? = some o ∧ (∀ v, o ≠ .imm v) ∧ ∀ s, exec i s = .next ((readModifyWrite shiftRight o s).advance i.length) := by
  cases i <;> first | (cases h; done) | exact ⟨_, rfl, nofun, fun _ => rfl⟩

theorem exec_rol {i : Instr} (h : i.mnemonic = .rol) :
    ∃ o, i.operand? = some o ∧ (∀ v, o ≠ .imm v) ∧ ∀ s, exec i s = .next ((readModifyWrite rotateLeft o s).advance i.length) := by
  cases i <;> first | (cases h; done) | exact ⟨_, rfl, nofun, fun _ => rfl⟩

theorem exec_ror {i : Instr} (h : i.mnemonic = .ror) :
    ∃ o, i.operand? = some o ∧ (∀ v, o ≠ .imm v) ∧ ∀ s, exec i s = .next ((readModifyWrite rotateRight o s).advance i.length) := by
  cases i <;> first | (cases h; done) | exact ⟨_, rfl, nofun, fun _ => rfl⟩

theorem exec_clb {i : Instr} (h : i.mnemonic = .clb) :
    ∃ b o, i.bitOperand? = some (b, o) ∧ (∀ v, o ≠ .imm v) ∧
      ∀ s, exec i s = .next ((readModifyWrite (clearBit b) o s).advance i.length) := by
  cases i <;> first | (cases h; done) | exact ⟨_, _, rfl, nofun, fun _ => rfl⟩

theorem exec_seb {i : Instr} (h : i.mnemonic = .seb) :
    ∃ b o, i.bitOperand? = some (b, o) ∧ (∀ v, o ≠ .imm v) ∧
      ∀ s, exec i s = .next ((readModifyWrite (setBit b) o s).advance i.length) := by
  cases i <;> first | (cases h; done) | exact ⟨_, _, rfl, nofun, fun _ => rfl⟩

theorem exec_bbc {i : Instr} (h : i.mnemonic = .bbc) :
    ∃ b o r, i.bitOperand? = some (b, o) ∧ i.offset? = some r ∧
      ∀ s, exec i s = .next (s.branch i.length (!testBit b (o.value s)) r) := by
  cases i <;> first | (cases h; done) | exact ⟨_, _, _, rfl, rfl, fun _ => rfl⟩

theorem exec_bbs {i : Instr} (h : i.mnemonic = .bbs) :
    ∃ b o r, i.bitOperand? = some (b, o) ∧ i.offset? = some r ∧
      ∀ s, exec i s = .next (s.branch i.length (testBit b (o.value s)) r) := by
  cases i <;> first | (cases h; done) | exact ⟨_, _, _, rfl, rfl, fun _ => rfl⟩

theorem exec_jsr {i : Instr} (h : i.mnemonic = .jsr) :
    ∃ g : State → Addr, ∀ s, exec i s = .next (call i.length g s) := by
  cases i <;> first | (cases h; done) | exact ⟨_, fun _ => rfl⟩

/-- No instruction touches the windows, the step number, the script or the parameters; only STP and WIT end the run
state, only FST and SLW switch X_OUTF. -/
theorem exec_keeps (i : Instr) (s t : State) (h : exec i s = .next t) :
    t.window = s.window ∧ t.tick = s.tick ∧ t.script = s.script ∧ t.cfg = s.cfg ∧
    (i.mnemonic ≠ .stp → i.mnemonic ≠ .wit → t.run = s.run) ∧
    (i.mnemonic ≠ .fst → i.mnemonic ≠ .slw → t.xoutf = s.xoutf) := by
  cases i <;> first
    | (cases h; simp [Instr.mnemonic])
    | (simp only [exec, execJmpInd, jumpIndirect] at h
       split at h
       · split at h <;> cases h <;> simp
       · cases h; simp)

end Sys2Proof.Machine
end

