-- ==== Sys2Proof/Laws/PerInstr.lean ====
section
/-! SUPPORT. The statements about every instruction as syntax, one lemma per constructor of Instr. -/

/-- The encoder writes as many bytes as the instruction is long: the two tables, of opcodes and of lengths, agree. -/
def Sys2Proof.Laws.LengthOfEncoding.Statement (i : Sys2Proof.Instr) : Prop :=
  (Sys2Proof.encode i).length = i.length

namespace Sys2Proof.Laws

theorem LengthOfEncoding.ldaImm (v : Byte) : LengthOfEncoding.Statement (.ldaImm v) := rfl
theorem LengthOfEncoding.ldaZp (z : Byte) : LengthOfEncoding.Statement (.ldaZp z) := rfl
theorem LengthOfEncoding.ldaZpX (z : Byte) : LengthOfEncoding.Statement (.ldaZpX z) := rfl
theorem LengthOfEncoding.ldaAbs (a : Addr) : LengthOfEncoding.Statement (.ldaAbs a) := rfl
theorem LengthOfEncoding.ldaAbsX (a : Addr) : LengthOfEncoding.Statement (.ldaAbsX a) := rfl
theorem LengthOfEncoding.ldaAbsY (a : Addr) : LengthOfEncoding.Statement (.ldaAbsY a) := rfl
theorem LengthOfEncoding.ldaIndX (z : Byte) : LengthOfEncoding.Statement (.ldaIndX z) := rfl
theorem LengthOfEncoding.ldaIndY (z : Byte) : LengthOfEncoding.Statement (.ldaIndY z) := rfl
theorem LengthOfEncoding.ldxImm (v : Byte) : LengthOfEncoding.Statement (.ldxImm v) := rfl
theorem LengthOfEncoding.ldxZp (z : Byte) : LengthOfEncoding.Statement (.ldxZp z) := rfl
theorem LengthOfEncoding.ldxZpY (z : Byte) : LengthOfEncoding.Statement (.ldxZpY z) := rfl
theorem LengthOfEncoding.ldxAbs (a : Addr) : LengthOfEncoding.Statement (.ldxAbs a) := rfl
theorem LengthOfEncoding.ldxAbsY (a : Addr) : LengthOfEncoding.Statement (.ldxAbsY a) := rfl
theorem LengthOfEncoding.ldyImm (v : Byte) : LengthOfEncoding.Statement (.ldyImm v) := rfl
theorem LengthOfEncoding.ldyZp (z : Byte) : LengthOfEncoding.Statement (.ldyZp z) := rfl
theorem LengthOfEncoding.ldyZpX (z : Byte) : LengthOfEncoding.Statement (.ldyZpX z) := rfl
theorem LengthOfEncoding.ldyAbs (a : Addr) : LengthOfEncoding.Statement (.ldyAbs a) := rfl
theorem LengthOfEncoding.ldyAbsX (a : Addr) : LengthOfEncoding.Statement (.ldyAbsX a) := rfl
theorem LengthOfEncoding.ldm (v : Byte) (z : Byte) : LengthOfEncoding.Statement (.ldm v z) := rfl
theorem LengthOfEncoding.staZp (z : Byte) : LengthOfEncoding.Statement (.staZp z) := rfl
theorem LengthOfEncoding.staZpX (z : Byte) : LengthOfEncoding.Statement (.staZpX z) := rfl
theorem LengthOfEncoding.staAbs (a : Addr) : LengthOfEncoding.Statement (.staAbs a) := rfl
theorem LengthOfEncoding.staAbsX (a : Addr) : LengthOfEncoding.Statement (.staAbsX a) := rfl
theorem LengthOfEncoding.staAbsY (a : Addr) : LengthOfEncoding.Statement (.staAbsY a) := rfl
theorem LengthOfEncoding.staIndX (z : Byte) : LengthOfEncoding.Statement (.staIndX z) := rfl
theorem LengthOfEncoding.staIndY (z : Byte) : LengthOfEncoding.Statement (.staIndY z) := rfl
theorem LengthOfEncoding.stxZp (z : Byte) : LengthOfEncoding.Statement (.stxZp z) := rfl
theorem LengthOfEncoding.stxZpY (z : Byte) : LengthOfEncoding.Statement (.stxZpY z) := rfl
theorem LengthOfEncoding.stxAbs (a : Addr) : LengthOfEncoding.Statement (.stxAbs a) := rfl
theorem LengthOfEncoding.styZp (z : Byte) : LengthOfEncoding.Statement (.styZp z) := rfl
theorem LengthOfEncoding.styZpX (z : Byte) : LengthOfEncoding.Statement (.styZpX z) := rfl
theorem LengthOfEncoding.styAbs (a : Addr) : LengthOfEncoding.Statement (.styAbs a) := rfl
theorem LengthOfEncoding.tax : LengthOfEncoding.Statement .tax := rfl
theorem LengthOfEncoding.tay : LengthOfEncoding.Statement .tay := rfl
theorem LengthOfEncoding.tsx : LengthOfEncoding.Statement .tsx := rfl
theorem LengthOfEncoding.txa : LengthOfEncoding.Statement .txa := rfl
theorem LengthOfEncoding.txs : LengthOfEncoding.Statement .txs := rfl
theorem LengthOfEncoding.tya : LengthOfEncoding.Statement .tya := rfl
theorem LengthOfEncoding.pha : LengthOfEncoding.Statement .pha := rfl
theorem LengthOfEncoding.php : LengthOfEncoding.Statement .php := rfl
theorem LengthOfEncoding.pla : LengthOfEncoding.Statement .pla := rfl
theorem LengthOfEncoding.plp : LengthOfEncoding.Statement .plp := rfl
theorem LengthOfEncoding.adcImm (v : Byte) : LengthOfEncoding.Statement (.adcImm v) := rfl
theorem LengthOfEncoding.adcZp (z : Byte) : LengthOfEncoding.Statement (.adcZp z) := rfl
theorem LengthOfEncoding.adcZpX (z : Byte) : LengthOfEncoding.Statement (.adcZpX z) := rfl
theorem LengthOfEncoding.adcAbs (a : Addr) : LengthOfEncoding.Statement (.adcAbs a) := rfl
theorem LengthOfEncoding.adcAbsX (a : Addr) : LengthOfEncoding.Statement (.adcAbsX a) := rfl
theorem LengthOfEncoding.adcAbsY (a : Addr) : LengthOfEncoding.Statement (.adcAbsY a) := rfl
theorem LengthOfEncoding.adcIndX (z : Byte) : LengthOfEncoding.Statement (.adcIndX z) := rfl
theorem LengthOfEncoding.adcIndY (z : Byte) : LengthOfEncoding.Statement (.adcIndY z) := rfl
theorem LengthOfEncoding.sbcImm (v : Byte) : LengthOfEncoding.Statement (.sbcImm v) := rfl
theorem LengthOfEncoding.sbcZp (z : Byte) : LengthOfEncoding.Statement (.sbcZp z) := rfl
theorem LengthOfEncoding.sbcZpX (z : Byte) : LengthOfEncoding.Statement (.sbcZpX z) := rfl
theorem LengthOfEncoding.sbcAbs (a : Addr) : LengthOfEncoding.Statement (.sbcAbs a) := rfl
theorem LengthOfEncoding.sbcAbsX (a : Addr) : LengthOfEncoding.Statement (.sbcAbsX a) := rfl
theorem LengthOfEncoding.sbcAbsY (a : Addr) : LengthOfEncoding.Statement (.sbcAbsY a) := rfl
theorem LengthOfEncoding.sbcIndX (z : Byte) : LengthOfEncoding.Statement (.sbcIndX z) := rfl
theorem LengthOfEncoding.sbcIndY (z : Byte) : LengthOfEncoding.Statement (.sbcIndY z) := rfl
theorem LengthOfEncoding.andImm (v : Byte) : LengthOfEncoding.Statement (.andImm v) := rfl
theorem LengthOfEncoding.andZp (z : Byte) : LengthOfEncoding.Statement (.andZp z) := rfl
theorem LengthOfEncoding.andZpX (z : Byte) : LengthOfEncoding.Statement (.andZpX z) := rfl
theorem LengthOfEncoding.andAbs (a : Addr) : LengthOfEncoding.Statement (.andAbs a) := rfl
theorem LengthOfEncoding.andAbsX (a : Addr) : LengthOfEncoding.Statement (.andAbsX a) := rfl
theorem LengthOfEncoding.andAbsY (a : Addr) : LengthOfEncoding.Statement (.andAbsY a) := rfl
theorem LengthOfEncoding.andIndX (z : Byte) : LengthOfEncoding.Statement (.andIndX z) := rfl
theorem LengthOfEncoding.andIndY (z : Byte) : LengthOfEncoding.Statement (.andIndY z) := rfl
theorem LengthOfEncoding.oraImm (v : Byte) : LengthOfEncoding.Statement (.oraImm v) := rfl
theorem LengthOfEncoding.oraZp (z : Byte) : LengthOfEncoding.Statement (.oraZp z) := rfl
theorem LengthOfEncoding.oraZpX (z : Byte) : LengthOfEncoding.Statement (.oraZpX z) := rfl
theorem LengthOfEncoding.oraAbs (a : Addr) : LengthOfEncoding.Statement (.oraAbs a) := rfl
theorem LengthOfEncoding.oraAbsX (a : Addr) : LengthOfEncoding.Statement (.oraAbsX a) := rfl
theorem LengthOfEncoding.oraAbsY (a : Addr) : LengthOfEncoding.Statement (.oraAbsY a) := rfl
theorem LengthOfEncoding.oraIndX (z : Byte) : LengthOfEncoding.Statement (.oraIndX z) := rfl
theorem LengthOfEncoding.oraIndY (z : Byte) : LengthOfEncoding.Statement (.oraIndY z) := rfl
theorem LengthOfEncoding.eorImm (v : Byte) : LengthOfEncoding.Statement (.eorImm v) := rfl
theorem LengthOfEncoding.eorZp (z : Byte) : LengthOfEncoding.Statement (.eorZp z) := rfl
theorem LengthOfEncoding.eorZpX (z : Byte) : LengthOfEncoding.Statement (.eorZpX z) := rfl
theorem LengthOfEncoding.eorAbs (a : Addr) : LengthOfEncoding.Statement (.eorAbs a) := rfl
theorem LengthOfEncoding.eorAbsX (a : Addr) : LengthOfEncoding.Statement (.eorAbsX a) := rfl
theorem LengthOfEncoding.eorAbsY (a : Addr) : LengthOfEncoding.Statement (.eorAbsY a) := rfl
theorem LengthOfEncoding.eorIndX (z : Byte) : LengthOfEncoding.Statement (.eorIndX z) := rfl
theorem LengthOfEncoding.eorIndY (z : Byte) : LengthOfEncoding.Statement (.eorIndY z) := rfl
theorem LengthOfEncoding.cmpImm (v : Byte) : LengthOfEncoding.Statement (.cmpImm v) := rfl
theorem LengthOfEncoding.cmpZp (z : Byte) : LengthOfEncoding.Statement (.cmpZp z) := rfl
theorem LengthOfEncoding.cmpZpX (z : Byte) : LengthOfEncoding.Statement (.cmpZpX z) := rfl
theorem LengthOfEncoding.cmpAbs (a : Addr) : LengthOfEncoding.Statement (.cmpAbs a) := rfl
theorem LengthOfEncoding.cmpAbsX (a : Addr) : LengthOfEncoding.Statement (.cmpAbsX a) := rfl
theorem LengthOfEncoding.cmpAbsY (a : Addr) : LengthOfEncoding.Statement (.cmpAbsY a) := rfl
theorem LengthOfEncoding.cmpIndX (z : Byte) : LengthOfEncoding.Statement (.cmpIndX z) := rfl
theorem LengthOfEncoding.cmpIndY (z : Byte) : LengthOfEncoding.Statement (.cmpIndY z) := rfl
theorem LengthOfEncoding.cpxImm (v : Byte) : LengthOfEncoding.Statement (.cpxImm v) := rfl
theorem LengthOfEncoding.cpxZp (z : Byte) : LengthOfEncoding.Statement (.cpxZp z) := rfl
theorem LengthOfEncoding.cpxAbs (a : Addr) : LengthOfEncoding.Statement (.cpxAbs a) := rfl
theorem LengthOfEncoding.cpyImm (v : Byte) : LengthOfEncoding.Statement (.cpyImm v) := rfl
theorem LengthOfEncoding.cpyZp (z : Byte) : LengthOfEncoding.Statement (.cpyZp z) := rfl
theorem LengthOfEncoding.cpyAbs (a : Addr) : LengthOfEncoding.Statement (.cpyAbs a) := rfl
theorem LengthOfEncoding.bitZp (z : Byte) : LengthOfEncoding.Statement (.bitZp z) := rfl
theorem LengthOfEncoding.bitAbs (a : Addr) : LengthOfEncoding.Statement (.bitAbs a) := rfl
theorem LengthOfEncoding.tstZp (z : Byte) : LengthOfEncoding.Statement (.tstZp z) := rfl
theorem LengthOfEncoding.comZp (z : Byte) : LengthOfEncoding.Statement (.comZp z) := rfl
theorem LengthOfEncoding.incA : LengthOfEncoding.Statement .incA := rfl
theorem LengthOfEncoding.incZp (z : Byte) : LengthOfEncoding.Statement (.incZp z) := rfl
theorem LengthOfEncoding.incZpX (z : Byte) : LengthOfEncoding.Statement (.incZpX z) := rfl
theorem LengthOfEncoding.incAbs (a : Addr) : LengthOfEncoding.Statement (.incAbs a) := rfl
theorem LengthOfEncoding.incAbsX (a : Addr) : LengthOfEncoding.Statement (.incAbsX a) := rfl
theorem LengthOfEncoding.decA : LengthOfEncoding.Statement .decA := rfl
theorem LengthOfEncoding.decZp (z : Byte) : LengthOfEncoding.Statement (.decZp z) := rfl
theorem LengthOfEncoding.decZpX (z : Byte) : LengthOfEncoding.Statement (.decZpX z) := rfl
theorem LengthOfEncoding.decAbs (a : Addr) : LengthOfEncoding.Statement (.decAbs a) := rfl
theorem LengthOfEncoding.decAbsX (a : Addr) : LengthOfEncoding.Statement (.decAbsX a) := rfl
theorem LengthOfEncoding.inx : LengthOfEncoding.Statement .inx := rfl
theorem LengthOfEncoding.iny : LengthOfEncoding.Statement .iny := rfl
theorem LengthOfEncoding.dex : LengthOfEncoding.Statement .dex := rfl
theorem LengthOfEncoding.dey : LengthOfEncoding.Statement .dey := rfl
theorem LengthOfEncoding.mulZpX (z : Byte) : LengthOfEncoding.Statement (.mulZpX z) := rfl
theorem LengthOfEncoding.divZpX (z : Byte) : LengthOfEncoding.Statement (.divZpX z) := rfl
theorem LengthOfEncoding.aslA : LengthOfEncoding.Statement .aslA := rfl
theorem LengthOfEncoding.aslZp (z : Byte) : LengthOfEncoding.Statement (.aslZp z) := rfl
theorem LengthOfEncoding.aslZpX (z : Byte) : LengthOfEncoding.Statement (.aslZpX z) := rfl
theorem LengthOfEncoding.aslAbs (a : Addr) : LengthOfEncoding.Statement (.aslAbs a) := rfl
theorem LengthOfEncoding.aslAbsX (a : Addr) : LengthOfEncoding.Statement (.aslAbsX a) := rfl
theorem LengthOfEncoding.lsrA : LengthOfEncoding.Statement .lsrA := rfl
theorem LengthOfEncoding.lsrZp (z : Byte) : LengthOfEncoding.Statement (.lsrZp z) := rfl
theorem LengthOfEncoding.lsrZpX (z : Byte) : LengthOfEncoding.Statement (.lsrZpX z) := rfl
theorem LengthOfEncoding.lsrAbs (a : Addr) : LengthOfEncoding.Statement (.lsrAbs a) := rfl
theorem LengthOfEncoding.lsrAbsX (a : Addr) : LengthOfEncoding.Statement (.lsrAbsX a) := rfl
theorem LengthOfEncoding.rolA : LengthOfEncoding.Statement .rolA := rfl
theorem LengthOfEncoding.rolZp (z : Byte) : LengthOfEncoding.Statement (.rolZp z) := rfl
theorem LengthOfEncoding.rolZpX (z : Byte) : LengthOfEncoding.Statement (.rolZpX z) := rfl
theorem LengthOfEncoding.rolAbs (a : Addr) : LengthOfEncoding.Statement (.rolAbs a) := rfl
theorem LengthOfEncoding.rolAbsX (a : Addr) : LengthOfEncoding.Statement (.rolAbsX a) := rfl
theorem LengthOfEncoding.rorA : LengthOfEncoding.Statement .rorA := rfl
theorem LengthOfEncoding.rorZp (z : Byte) : LengthOfEncoding.Statement (.rorZp z) := rfl
theorem LengthOfEncoding.rorZpX (z : Byte) : LengthOfEncoding.Statement (.rorZpX z) := rfl
theorem LengthOfEncoding.rorAbs (a : Addr) : LengthOfEncoding.Statement (.rorAbs a) := rfl
theorem LengthOfEncoding.rorAbsX (a : Addr) : LengthOfEncoding.Statement (.rorAbsX a) := rfl
theorem LengthOfEncoding.rrfZp (z : Byte) : LengthOfEncoding.Statement (.rrfZp z) := rfl
theorem LengthOfEncoding.clbA (b : BitNo) : LengthOfEncoding.Statement (.clbA b) := rfl
theorem LengthOfEncoding.clbZp (b : BitNo) (z : Byte) : LengthOfEncoding.Statement (.clbZp b z) := rfl
theorem LengthOfEncoding.sebA (b : BitNo) : LengthOfEncoding.Statement (.sebA b) := rfl
theorem LengthOfEncoding.sebZp (b : BitNo) (z : Byte) : LengthOfEncoding.Statement (.sebZp b z) := rfl
theorem LengthOfEncoding.clc : LengthOfEncoding.Statement .clc := rfl
theorem LengthOfEncoding.sec : LengthOfEncoding.Statement .sec := rfl
theorem LengthOfEncoding.cld : LengthOfEncoding.Statement .cld := rfl
theorem LengthOfEncoding.sed : LengthOfEncoding.Statement .sed := rfl
theorem LengthOfEncoding.cli : LengthOfEncoding.Statement .cli := rfl
theorem LengthOfEncoding.sei : LengthOfEncoding.Statement .sei := rfl
theorem LengthOfEncoding.clt : LengthOfEncoding.Statement .clt := rfl
theorem LengthOfEncoding.set : LengthOfEncoding.Statement .set := rfl
theorem LengthOfEncoding.clv : LengthOfEncoding.Statement .clv := rfl
theorem LengthOfEncoding.jmpAbs (a : Addr) : LengthOfEncoding.Statement (.jmpAbs a) := rfl
theorem LengthOfEncoding.jmpInd (a : Addr) : LengthOfEncoding.Statement (.jmpInd a) := rfl
theorem LengthOfEncoding.jmpZpInd (z : Byte) : LengthOfEncoding.Statement (.jmpZpInd z) := rfl
theorem LengthOfEncoding.jsrAbs (a : Addr) : LengthOfEncoding.Statement (.jsrAbs a) := rfl
theorem LengthOfEncoding.jsrZpInd (z : Byte) : LengthOfEncoding.Statement (.jsrZpInd z) := rfl
theorem LengthOfEncoding.jsrSp (l : Byte) : LengthOfEncoding.Statement (.jsrSp l) := rfl
theorem LengthOfEncoding.rts : LengthOfEncoding.Statement .rts := rfl
theorem LengthOfEncoding.rti : LengthOfEncoding.Statement .rti := rfl
theorem LengthOfEncoding.bcc (r : Byte) : LengthOfEncoding.Statement (.bcc r) := rfl
theorem LengthOfEncoding.bcs (r : Byte) : LengthOfEncoding.Statement (.bcs r) := rfl
theorem LengthOfEncoding.beq (r : Byte) : LengthOfEncoding.Statement (.beq r) := rfl
theorem LengthOfEncoding.bne (r : Byte) : LengthOfEncoding.Statement (.bne r) := rfl
theorem LengthOfEncoding.bmi (r : Byte) : LengthOfEncoding.Statement (.bmi r) := rfl
theorem LengthOfEncoding.bpl (r : Byte) : LengthOfEncoding.Statement (.bpl r) := rfl
theorem LengthOfEncoding.bvc (r : Byte) : LengthOfEncoding.Statement (.bvc r) := rfl
theorem LengthOfEncoding.bvs (r : Byte) : LengthOfEncoding.Statement (.bvs r) := rfl
theorem LengthOfEncoding.bra (r : Byte) : LengthOfEncoding.Statement (.bra r) := rfl
theorem LengthOfEncoding.bbcA (b : BitNo) (r : Byte) : LengthOfEncoding.Statement (.bbcA b r) := rfl
theorem LengthOfEncoding.bbcZp (b : BitNo) (z : Byte) (r : Byte) : LengthOfEncoding.Statement (.bbcZp b z r) := rfl
theorem LengthOfEncoding.bbsA (b : BitNo) (r : Byte) : LengthOfEncoding.Statement (.bbsA b r) := rfl
theorem LengthOfEncoding.bbsZp (b : BitNo) (z : Byte) (r : Byte) : LengthOfEncoding.Statement (.bbsZp b z r) := rfl
theorem LengthOfEncoding.brk : LengthOfEncoding.Statement .brk := rfl
theorem LengthOfEncoding.nop : LengthOfEncoding.Statement .nop := rfl
theorem LengthOfEncoding.stp : LengthOfEncoding.Statement .stp := rfl
theorem LengthOfEncoding.wit : LengthOfEncoding.Statement .wit := rfl
theorem LengthOfEncoding.fst : LengthOfEncoding.Statement .fst := rfl
theorem LengthOfEncoding.slw : LengthOfEncoding.Statement .slw := rfl

end Sys2Proof.Laws
end

