-- ==== Sys2Proof/Laws/Step.lean ====
section
/-! SUPPORT. The operations around an instruction, field by field, and what a step can do, said once. -/

namespace Sys2Proof.Machine

@[simp] theorem State.tickOn_a (s : State) : s.tickOn.a = s.a := rfl
@[simp] theorem State.tickOn_x (s : State) : s.tickOn.x = s.x := rfl
@[simp] theorem State.tickOn_y (s : State) : s.tickOn.y = s.y := rfl
@[simp] theorem State.tickOn_sp (s : State) : s.tickOn.sp = s.sp := rfl
@[simp] theorem State.tickOn_pc (s : State) : s.tickOn.pc = s.pc := rfl
@[simp] theorem State.tickOn_ps (s : State) : s.tickOn.ps = s.ps := rfl
@[simp] theorem State.tickOn_mem (s : State) : s.tickOn.mem = s.mem := rfl
@[simp] theorem State.tickOn_run (s : State) : s.tickOn.run = s.run := rfl
@[simp] theorem State.tickOn_xoutf (s : State) : s.tickOn.xoutf = s.xoutf := rfl
@[simp] theorem State.tickOn_window (s : State) : s.tickOn.window = s.window := rfl
@[simp] theorem State.tickOn_script (s : State) : s.tickOn.script = s.script := rfl
@[simp] theorem State.tickOn_cfg (s : State) : s.tickOn.cfg = s.cfg := rfl

@[simp] theorem State.tickOn_tick (s : State) : s.tickOn.tick = s.tick + 1 := rfl

@[simp] theorem State.dropInput_a (s : State) : s.dropInput.a = s.a := rfl
@[simp] theorem State.dropInput_x (s : State) : s.dropInput.x = s.x := rfl
@[simp] theorem State.dropInput_y (s : State) : s.dropInput.y = s.y := rfl
@[simp] theorem State.dropInput_sp (s : State) : s.dropInput.sp = s.sp := rfl
@[simp] theorem State.dropInput_pc (s : State) : s.dropInput.pc = s.pc := rfl
@[simp] theorem State.dropInput_ps (s : State) : s.dropInput.ps = s.ps := rfl
@[simp] theorem State.dropInput_mem (s : State) : s.dropInput.mem = s.mem := rfl
@[simp] theorem State.dropInput_run (s : State) : s.dropInput.run = s.run := rfl
@[simp] theorem State.dropInput_xoutf (s : State) : s.dropInput.xoutf = s.xoutf := rfl
@[simp] theorem State.dropInput_window (s : State) : s.dropInput.window = s.window := rfl
@[simp] theorem State.dropInput_tick (s : State) : s.dropInput.tick = s.tick := rfl
@[simp] theorem State.dropInput_cfg (s : State) : s.dropInput.cfg = s.cfg := rfl

@[simp] theorem State.dropInput_script (s : State) : s.dropInput.script = s.script.tail := rfl

@[simp] theorem State.deviceRequest_a (s : State) (k : Nat) : (s.deviceRequest k).a = s.a := by
  unfold State.deviceRequest; split <;> simp
@[simp] theorem State.deviceRequest_x (s : State) (k : Nat) : (s.deviceRequest k).x = s.x := by
  unfold State.deviceRequest; split <;> simp
@[simp] theorem State.deviceRequest_y (s : State) (k : Nat) : (s.deviceRequest k).y = s.y := by
  unfold State.deviceRequest; split <;> simp
@[simp] theorem State.deviceRequest_sp (s : State) (k : Nat) : (s.deviceRequest k).sp = s.sp := by
  unfold State.deviceRequest; split <;> simp
@[simp] theorem State.deviceRequest_pc (s : State) (k : Nat) : (s.deviceRequest k).pc = s.pc := by
  unfold State.deviceRequest; split <;> simp
@[simp] theorem State.deviceRequest_ps (s : State) (k : Nat) : (s.deviceRequest k).ps = s.ps := by
  unfold State.deviceRequest; split <;> simp
@[simp] theorem State.deviceRequest_run (s : State) (k : Nat) : (s.deviceRequest k).run = s.run := by
  unfold State.deviceRequest; split <;> simp
@[simp] theorem State.deviceRequest_xoutf (s : State) (k : Nat) : (s.deviceRequest k).xoutf = s.xoutf := by
  unfold State.deviceRequest; split <;> simp
@[simp] theorem State.deviceRequest_tick (s : State) (k : Nat) : (s.deviceRequest k).tick = s.tick := by
  unfold State.deviceRequest; split <;> simp
@[simp] theorem State.deviceRequest_script (s : State) (k : Nat) : (s.deviceRequest k).script = s.script := by
  unfold State.deviceRequest; split <;> simp
@[simp] theorem State.deviceRequest_cfg (s : State) (k : Nat) : (s.deviceRequest k).cfg = s.cfg := by
  unfold State.deviceRequest; split <;> simp

@[simp] theorem State.applyInput_a (s : State) (e : EnvInput) : (s.applyInput e).a = s.a := by
  unfold State.applyInput
  generalize e.requests = l
  induction l generalizing s with
  | nil => rfl
  | cons k l ih => simp [ih]

@[simp] theorem State.applyInput_x (s : State) (e : EnvInput) : (s.applyInput e).x = s.x := by
  unfold State.applyInput
  generalize e.requests = l
  induction l generalizing s with
  | nil => rfl
  | cons k l ih => simp [ih]

@[simp] theorem State.applyInput_y (s : State) (e : EnvInput) : (s.applyInput e).y = s.y := by
  unfold State.applyInput
  generalize e.requests = l
  induction l generalizing s with
  | nil => rfl
  | cons k l ih => simp [ih]

@[simp] theorem State.applyInput_sp (s : State) (e : EnvInput) : (s.applyInput e).sp = s.sp := by
  unfold State.applyInput
  generalize e.requests = l
  induction l generalizing s with
  | nil => rfl
  | cons k l ih => simp [ih]

@[simp] theorem State.applyInput_pc (s : State) (e : EnvInput) : (s.applyInput e).pc = s.pc := by
  unfold State.applyInput
  generalize e.requests = l
  induction l generalizing s with
  | nil => rfl
  | cons k l ih => simp [ih]

@[simp] theorem State.applyInput_ps (s : State) (e : EnvInput) : (s.applyInput e).ps = s.ps := by
  unfold State.applyInput
  generalize e.requests = l
  induction l generalizing s with
  | nil => rfl
  | cons k l ih => simp [ih]

@[simp] theorem State.applyInput_run (s : State) (e : EnvInput) : (s.applyInput e).run = s.run := by
  unfold State.applyInput
  generalize e.requests = l
  induction l generalizing s with
  | nil => rfl
  | cons k l ih => simp [ih]

@[simp] theorem State.applyInput_xoutf (s : State) (e : EnvInput) : (s.applyInput e).xoutf = s.xoutf := by
  unfold State.applyInput
  generalize e.requests = l
  induction l generalizing s with
  | nil => rfl
  | cons k l ih => simp [ih]

@[simp] theorem State.applyInput_tick (s : State) (e : EnvInput) : (s.applyInput e).tick = s.tick := by
  unfold State.applyInput
  generalize e.requests = l
  induction l generalizing s with
  | nil => rfl
  | cons k l ih => simp [ih]

@[simp] theorem State.applyInput_script (s : State) (e : EnvInput) : (s.applyInput e).script = s.script := by
  unfold State.applyInput
  generalize e.requests = l
  induction l generalizing s with
  | nil => rfl
  | cons k l ih => simp [ih]

@[simp] theorem State.applyInput_cfg (s : State) (e : EnvInput) : (s.applyInput e).cfg = s.cfg := by
  unfold State.applyInput
  generalize e.requests = l
  induction l generalizing s with
  | nil => rfl
  | cons k l ih => simp [ih]

theorem State.applyInput_none (s : State) (e : EnvInput) (h : e.requests = []) : s.applyInput e = s := by
  simp [State.applyInput, h]

@[simp] theorem State.resetSources_a (l : List IrqSource) (s : State) :
    (l.foldl State.resetSource s).a = s.a := by
  induction l generalizing s with
  | nil => rfl
  | cons k l ih => simp [ih]

@[simp] theorem State.resetSources_x (l : List IrqSource) (s : State) :
    (l.foldl State.resetSource s).x = s.x := by
  induction l generalizing s with
  | nil => rfl
  | cons k l ih => simp [ih]

@[simp] theorem State.resetSources_y (l : List IrqSource) (s : State) :
    (l.foldl State.resetSource s).y = s.y := by
  induction l generalizing s with
  | nil => rfl
  | cons k l ih => simp [ih]

@[simp] theorem State.resetSources_sp (l : List IrqSource) (s : State) :
    (l.foldl State.resetSource s).sp = s.sp := by
  induction l generalizing s with
  | nil => rfl
  | cons k l ih => simp [ih]

@[simp] theorem State.resetSources_pc (l : List IrqSource) (s : State) :
    (l.foldl State.resetSource s).pc = s.pc := by
  induction l generalizing s with
  | nil => rfl
  | cons k l ih => simp [ih]

@[simp] theorem State.resetSources_ps (l : List IrqSource) (s : State) :
    (l.foldl State.resetSource s).ps = s.ps := by
  induction l generalizing s with
  | nil => rfl
  | cons k l ih => simp [ih]

@[simp] theorem State.resetSources_run (l : List IrqSource) (s : State) :
    (l.foldl State.resetSource s).run = s.run := by
  induction l generalizing s with
  | nil => rfl
  | cons k l ih => simp [ih]

@[simp] theorem State.resetSources_xoutf (l : List IrqSource) (s : State) :
    (l.foldl State.resetSource s).xoutf = s.xoutf := by
  induction l generalizing s with
  | nil => rfl
  | cons k l ih => simp [ih]

@[simp] theorem State.resetSources_window (l : List IrqSource) (s : State) :
    (l.foldl State.resetSource s).window = s.window := by
  induction l generalizing s with
  | nil => rfl
  | cons k l ih => simp [ih]

@[simp] theorem State.resetSources_tick (l : List IrqSource) (s : State) :
    (l.foldl State.resetSource s).tick = s.tick := by
  induction l generalizing s with
  | nil => rfl
  | cons k l ih => simp [ih]

@[simp] theorem State.resetSources_script (l : List IrqSource) (s : State) :
    (l.foldl State.resetSource s).script = s.script := by
  induction l generalizing s with
  | nil => rfl
  | cons k l ih => simp [ih]

@[simp] theorem State.resetSources_cfg (l : List IrqSource) (s : State) :
    (l.foldl State.resetSource s).cfg = s.cfg := by
  induction l generalizing s with
  | nil => rfl
  | cons k l ih => simp [ih]

@[simp] theorem State.resetEvent_xoutf (s : State) : s.resetEvent.xoutf = s.xoutf := by
  simp only [State.resetEvent]; split <;> simp

@[simp] theorem State.resetEvent_tick (s : State) : s.resetEvent.tick = s.tick := by
  simp only [State.resetEvent]; split <;> simp

@[simp] theorem State.resetEvent_script (s : State) : s.resetEvent.script = s.script := by
  simp only [State.resetEvent]; split <;> simp

@[simp] theorem State.resetEvent_cfg (s : State) : s.resetEvent.cfg = s.cfg := by
  simp only [State.resetEvent]; split <;> simp

@[simp] theorem State.resetEvent_run (s : State) : s.resetEvent.run = .running := by simp [State.resetEvent]

@[simp] theorem State.resetEvent_window (s : State) : s.resetEvent.window = .closed := by simp [State.resetEvent]

@[simp] theorem State.resetEvent_i (s : State) : s.resetEvent.ps.i = true := by simp [State.resetEvent]

@[simp] theorem State.settle_a (s : State) (p : Bool) (i : Instr) (t : State) : (s.settle p i t).a = t.a := rfl
@[simp] theorem State.settle_x (s : State) (p : Bool) (i : Instr) (t : State) : (s.settle p i t).x = t.x := rfl
@[simp] theorem State.settle_y (s : State) (p : Bool) (i : Instr) (t : State) : (s.settle p i t).y = t.y := rfl
@[simp] theorem State.settle_sp (s : State) (p : Bool) (i : Instr) (t : State) : (s.settle p i t).sp = t.sp := rfl
@[simp] theorem State.settle_pc (s : State) (p : Bool) (i : Instr) (t : State) : (s.settle p i t).pc = t.pc := rfl
@[simp] theorem State.settle_mem (s : State) (p : Bool) (i : Instr) (t : State) : (s.settle p i t).mem = t.mem := rfl
@[simp] theorem State.settle_run (s : State) (p : Bool) (i : Instr) (t : State) : (s.settle p i t).run = t.run := rfl
@[simp] theorem State.settle_xoutf (s : State) (p : Bool) (i : Instr) (t : State) : (s.settle p i t).xoutf = t.xoutf := rfl
@[simp] theorem State.settle_script (s : State) (p : Bool) (i : Instr) (t : State) : (s.settle p i t).script = t.script := rfl
@[simp] theorem State.settle_cfg (s : State) (p : Bool) (i : Instr) (t : State) : (s.settle p i t).cfg = t.cfg := rfl

@[simp] theorem State.settle_ps (s : State) (p : Bool) (i : Instr) (t : State) :
    (s.settle p i t).ps = s.settledPS i t.ps := rfl

@[simp] theorem State.settle_tick (s : State) (p : Bool) (i : Instr) (t : State) :
    (s.settle p i t).tick = t.tick + 1 := rfl

@[simp] theorem State.settle_window (s : State) (p : Bool) (i : Instr) (t : State) :
    (s.settle p i t).window = windowAfter p i s (t.setPs (s.settledPS i t.ps)) := rfl

@[simp] theorem State.prepare_a (s : State) (i : Instr) : (s.prepare i).a = s.a := by
  unfold State.prepare; split <;> simp
@[simp] theorem State.prepare_x (s : State) (i : Instr) : (s.prepare i).x = s.x := by
  unfold State.prepare; split <;> simp
@[simp] theorem State.prepare_y (s : State) (i : Instr) : (s.prepare i).y = s.y := by
  unfold State.prepare; split <;> simp
@[simp] theorem State.prepare_sp (s : State) (i : Instr) : (s.prepare i).sp = s.sp := by
  unfold State.prepare; split <;> simp
@[simp] theorem State.prepare_pc (s : State) (i : Instr) : (s.prepare i).pc = s.pc := by
  unfold State.prepare; split <;> simp
@[simp] theorem State.prepare_mem (s : State) (i : Instr) : (s.prepare i).mem = s.mem := by
  unfold State.prepare; split <;> simp
@[simp] theorem State.prepare_run (s : State) (i : Instr) : (s.prepare i).run = s.run := by
  unfold State.prepare; split <;> simp
@[simp] theorem State.prepare_xoutf (s : State) (i : Instr) : (s.prepare i).xoutf = s.xoutf := by
  unfold State.prepare; split <;> simp
@[simp] theorem State.prepare_window (s : State) (i : Instr) : (s.prepare i).window = s.window := by
  unfold State.prepare; split <;> simp
@[simp] theorem State.prepare_tick (s : State) (i : Instr) : (s.prepare i).tick = s.tick := by
  unfold State.prepare; split <;> simp
@[simp] theorem State.prepare_script (s : State) (i : Instr) : (s.prepare i).script = s.script := by
  unfold State.prepare; split <;> simp
@[simp] theorem State.prepare_cfg (s : State) (i : Instr) : (s.prepare i).cfg = s.cfg := by
  unfold State.prepare; split <;> simp

@[simp] theorem State.prepare_byteAt (s : State) (i : Instr) (b : Addr) : (s.prepare i).byteAt b = s.byteAt b := by
  simp [State.byteAt]

@[simp] theorem State.settle_byteAt (s : State) (p : Bool) (i : Instr) (t : State) (b : Addr) :
    (s.settle p i t).byteAt b = t.byteAt b := rfl

/-- All that a step can do: reset; nothing, in a stopped state; interrupt entry; one instruction. -/
theorem step_cases {s t : State} (h : step s = .next t) :
    (s.input.reset = true ∧ t = s.dropInput.resetEvent.tickOn) ∨
    (s.input.reset = false ∧ s.atBoundary.staysStopped s.input = true ∧ t = s.atBoundary.tickOn) ∨
    (s.input.reset = false ∧ s.atBoundary.staysStopped s.input = false ∧ s.input.postpone = false ∧
      ∃ k src, (s.atBoundary.setRun .running).nextInterrupt = some (k, src) ∧
        t = (((s.atBoundary.setRun .running).enterInterrupt src).setWindow
          (windowAfterEntry (s.atBoundary.setRun .running) k)).tickOn) ∨
    (s.input.reset = false ∧ s.atBoundary.staysStopped s.input = false ∧
      (s.input.postpone = false → (s.atBoundary.setRun .running).nextInterrupt = none) ∧
      ∃ i u, (s.atBoundary.setRun .running).fetch = .ok i ∧
        exec i ((s.atBoundary.setRun .running).prepare i) = .next u ∧
        t = (s.atBoundary.setRun .running).settle s.input.postpone i u) := by
  have run : ∀ (v : State) (p : Bool), v.runInstruction p = .next t →
      ∃ i u, v.fetch = .ok i ∧ exec i (v.prepare i) = .next u ∧ t = v.settle p i u := by
    intro v p h
    unfold State.runInstruction at h
    split at h
    · cases h
    · rename_i i hf
      split at h
      · rename_i u hu
        cases h
        exact ⟨i, u, hf, hu, rfl⟩
      · cases h
      · cases h
  unfold step stepOnce at h
  simp only at h
  split at h
  · cases h; exact .inl ⟨by assumption, rfl⟩
  · rename_i hr
    have hr : s.input.reset = false := by simpa using hr
    split at h
    · cases h; exact .inr (.inl ⟨hr, by assumption, rfl⟩)
    · rename_i hs
      have hs : s.atBoundary.staysStopped s.input = false := by simpa [State.atBoundary] using hs
      unfold State.runBoundary at h
      split at h
      · rename_i hp
        refine .inr (.inr (.inr ⟨hr, hs, fun h => absurd hp (by simp [h]), ?_⟩))
        rw [hp]; exact run _ _ h
      · rename_i hp
        have hp : s.input.postpone = false := by simpa using hp
        split at h
        · rename_i k src hk
          cases h
          exact .inr (.inr (.inl ⟨hr, hs, hp, k, src, hk, rfl⟩))
        · rename_i hk
          refine .inr (.inr (.inr ⟨hr, hs, fun _ => hk, ?_⟩))
          rw [hp]; exact run _ _ h

/-! ### The boundary -/

@[simp] theorem State.atBoundary_a (s : State) : s.atBoundary.a = s.a := by simp [State.atBoundary]
@[simp] theorem State.atBoundary_x (s : State) : s.atBoundary.x = s.x := by simp [State.atBoundary]
@[simp] theorem State.atBoundary_y (s : State) : s.atBoundary.y = s.y := by simp [State.atBoundary]
@[simp] theorem State.atBoundary_sp (s : State) : s.atBoundary.sp = s.sp := by simp [State.atBoundary]
@[simp] theorem State.atBoundary_pc (s : State) : s.atBoundary.pc = s.pc := by simp [State.atBoundary]
@[simp] theorem State.atBoundary_ps (s : State) : s.atBoundary.ps = s.ps := by simp [State.atBoundary]
@[simp] theorem State.atBoundary_run (s : State) : s.atBoundary.run = s.run := by simp [State.atBoundary]
@[simp] theorem State.atBoundary_xoutf (s : State) : s.atBoundary.xoutf = s.xoutf := by simp [State.atBoundary]
@[simp] theorem State.atBoundary_tick (s : State) : s.atBoundary.tick = s.tick := by simp [State.atBoundary]
@[simp] theorem State.atBoundary_script (s : State) : s.atBoundary.script = s.script.tail := by simp [State.atBoundary]
@[simp] theorem State.atBoundary_cfg (s : State) : s.atBoundary.cfg = s.cfg := by simp [State.atBoundary]

/-- Device requests change no byte that holds no request bit. -/
theorem State.applyInput_byteAt (s : State) (e : EnvInput) (b : Addr)
    (h : ∀ src ∈ s.cfg.sources, src.request.addr ≠ b) : (s.applyInput e).byteAt b = s.byteAt b := by
  unfold State.applyInput
  generalize e.requests = l
  induction l generalizing s with
  | nil => rfl
  | cons k l ih =>
    rw [List.foldl_cons, ih _ (by simpa using h)]
    unfold State.deviceRequest
    split
    · rename_i src hk
      rw [State.setWindow_byteAt, State.byteAt_setLatch, if_neg (h src (List.mem_of_getElem? hk)).symm]
    · rfl

/-- Device requests leave every forced source forced. -/
theorem State.applyInput_forced (s : State) (e : EnvInput) : (s.applyInput e).window.forced = s.window.forced := by
  unfold State.applyInput
  generalize e.requests = l
  induction l generalizing s with
  | nil => rfl
  | cons k l ih =>
    rw [List.foldl_cons, ih]
    unfold State.deviceRequest
    split <;> simp

/-- Device requests only set bits, and only take sources from those with an unsettled request bit. -/
theorem State.applyInput_sets (s : State) (e : EnvInput) :
    (∀ l : BitLoc, s.latch l = true → (s.applyInput e).latch l = true) ∧
    ∀ j ∈ (s.applyInput e).window.fresh, j ∈ s.window.fresh ∧ (s.cfg.sources[j]?.isSome = true → j ∉ e.requests) := by
  unfold State.applyInput
  generalize e.requests = r
  induction r generalizing s with
  | nil => simp
  | cons k r ih =>
    obtain ⟨h1, h2⟩ := ih (s.deviceRequest k)
    rw [List.foldl_cons]
    have hl : ∀ l : BitLoc, s.latch l = true → (s.deviceRequest k).latch l = true := by
      intro l h
      unfold State.deviceRequest
      split
      · rw [State.setWindow_latch, State.latch_setLatch]; split <;> simp [h]
      · exact h
    refine ⟨fun l h => h1 l (hl l h), fun j hj => ?_⟩
    obtain ⟨h3, h4⟩ := h2 j hj
    rw [State.deviceRequest_cfg] at h4
    unfold State.deviceRequest at h3
    split at h3
    · simp only [State.setWindow_window, List.mem_filter, bne_iff_ne, ne_eq] at h3
      exact ⟨h3.1, fun hs => by simp [h3.2, h4 hs]⟩
    · rename_i hk
      refine ⟨h3, fun hs => ?_⟩
      have : j ≠ k := by rintro rfl; simp [hk] at hs
      simp [this, h4 hs]

/-- A device's request bit is 1 and settled at the boundary of the request (R311). -/
theorem State.applyInput_requested (s : State) (e : EnvInput) (k : Nat) (src : IrqSource)
    (hk : s.cfg.sources[k]? = some src) (he : k ∈ e.requests) :
    (s.applyInput e).latch src.request = true ∧ k ∉ (s.applyInput e).window.fresh := by
  refine ⟨?_, fun h => ((s.applyInput_sets e).2 k h).2 (by simp [hk]) he⟩
  obtain ⟨p, q, hpq⟩ := List.append_of_mem he
  have : s.applyInput e = ((s.applyInput { e with requests := p }).deviceRequest k).applyInput { e with requests := q } := by
    simp [State.applyInput, hpq]
  rw [this]
  refine (State.applyInput_sets _ _).1 _ ?_
  simp [State.deviceRequest, hk]

/-- Device requests leave every bit that is not the request bit of a requested source. -/
theorem State.applyInput_latch_other (s : State) (e : EnvInput) (l : BitLoc)
    (h : ∀ k ∈ e.requests, ∀ src, s.cfg.sources[k]? = some src → src.request ≠ l) :
    (s.applyInput e).latch l = s.latch l := by
  unfold State.applyInput
  generalize e.requests = r at h
  induction r generalizing s with
  | nil => rfl
  | cons k r ih =>
    rw [List.foldl_cons, ih _ (fun j hj src hk => h j (List.mem_cons_of_mem _ hj) src (by simpa using hk))]
    unfold State.deviceRequest
    split
    · rename_i src hk
      rw [State.setWindow_latch, State.latch_setLatch, if_neg (h k List.mem_cons_self src hk).symm]
    · rfl

/-- Without reset, a step of a CPU that runs or that a wake event ends the stop of is the boundary's. -/
theorem step_awake {s : State} (hr : s.input.reset = false) (hw : s.run = .running ∨ WakeEvent s) :
    step s = (s.atBoundary.setRun .running).runBoundary s.input.postpone := by
  have hs : s.atBoundary.staysStopped s.input = false := by
    simp only [State.staysStopped, Bool.and_eq_false_imp, Bool.not_eq_false']
    intro hrun
    have he : s.atBoundary.wakeEvents = s.wakeEvents := by simp [State.atBoundary, State.wakeEvents]
    have hsrc : s.atBoundary.cfg.sources = s.cfg.sources := by simp [State.atBoundary]
    rcases hw with h | ⟨h1, h2⟩ | ⟨k, hk, h⟩
    · simp [State.atBoundary, h] at hrun
    · simp [State.wakes, he, h1, h2]
    · simp only [State.wakes, he, hsrc, Bool.or_eq_true, List.any_eq_true]
      refine .inr ⟨k, hk, ?_⟩
      rcases h with h | ⟨src, h1, h2⟩
      · exact .inl (by simpa using h)
      · exact .inr (by simp [h1, h2])
  simp only [step, stepOnce, hr, show s.dropInput.applyInput s.input = s.atBoundary from rfl, hs]
  rfl

/-- Without reset and without a wake event, a step of a stopped CPU only takes the environment's input. -/
theorem step_asleep {s : State} (hr : s.input.reset = false) (hs : s.run ≠ .running) (hw : ¬ WakeEvent s) :
    step s = .next s.atBoundary.tickOn := by
  have he : s.atBoundary.wakeEvents = s.wakeEvents := by simp [State.atBoundary, State.wakeEvents]
  have hsrc : s.atBoundary.cfg.sources = s.cfg.sources := by simp [State.atBoundary]
  have hst : s.atBoundary.staysStopped s.input = true := by
    simp only [State.staysStopped, Bool.and_eq_true, Bool.not_eq_true']
    refine ⟨by simpa [State.atBoundary] using hs, ?_⟩
    rw [Bool.eq_false_iff]
    intro h
    refine hw ?_
    simp only [State.wakes, he, hsrc, Bool.or_eq_true, Bool.and_eq_true, List.any_eq_true] at h
    rcases h with h | ⟨k, hk, h | h⟩
    · exact .inl h
    · exact .inr ⟨k, hk, .inl (by simpa using h)⟩
    · split at h
      · exact .inr ⟨k, hk, .inr ⟨_, by assumption, h⟩⟩
      · cases h
  simp only [step, stepOnce, hr, show s.dropInput.applyInput s.input = s.atBoundary from rfl, hst]
  rfl

/-- A running CPU at a quiet boundary with nothing to accept is at an instruction. -/
theorem step_quiet {s : State} (hr : s.run = .running) (hs : s.input = .quiet) (hn : s.nextInterrupt = none) :
    step s = s.dropInput.runInstruction false := by
  have hb : s.atBoundary = s.dropInput := by rw [State.atBoundary, hs]; exact State.applyInput_none _ _ rfl
  have hrun : s.dropInput.setRun .running = s.dropInput := by
    apply State.eq_of_fields <;> simp [hr]
  have hn' : s.dropInput.nextInterrupt = none := hn
  rw [step_awake (by rw [hs]; rfl) (.inl hr), hb, hrun, hs]
  simp [State.runBoundary, EnvInput.quiet, hn']

/-- What a step at such a boundary can give: the settled next state of the instruction. -/
theorem step_runs {s t : State} {i : Instr} (h : RunsInstr s i) (hs : step s = .next t) :
    ∃ u, exec i (s.dropInput.prepare i) = .next u ∧ t = s.dropInput.settle false i u := by
  obtain ⟨h1, h2, h3, h4⟩ := h
  have h4' : s.dropInput.fetch = .ok i := h4
  rw [step_quiet h1 h2 h3] at hs
  simp only [State.runInstruction, h4'] at hs
  split at hs
  · rename_i u hu; cases hs; exact ⟨u, hu, rfl⟩
  · cases hs
  · cases hs

/-- The boundary runs the instruction at PC where recognition is postponed or nothing is acceptable. -/
theorem runBoundary_instr {w t : State} {i : Instr} {p : Bool} (hp : p = true ∨ w.nextInterrupt = none)
    (hf : w.fetch = .ok i) (he : exec i (w.prepare i) = .next t) : w.runBoundary p = .next (w.settle p i t) := by
  have hr : ∀ q, w.runInstruction q = .next (w.settle q i t) := by
    intro q; simp only [State.runInstruction, hf, he]
  cases p
  · have hn : w.nextInterrupt = none := by simpa using hp
    simp only [State.runBoundary, hn, hr]; simp
  · simp only [State.runBoundary, hr]; simp

/-- The boundary enters the interrupt where one is acceptable and recognition is not postponed. -/
theorem runBoundary_entry {w : State} {k : Nat} {src : IrqSource} (hn : w.nextInterrupt = some (k, src)) :
    w.runBoundary false = .next (((w.enterInterrupt src).setWindow (windowAfterEntry w k)).tickOn) := by
  simp [State.runBoundary, hn]

end Sys2Proof.Machine
end

