-- ==== Sys2Proof/Tests/Slice0.lean ====
section
/-! SUPPORT. The model's own tests. The instruction words are written out from the encodings of the opcode table; the
expected results of the step tests are those of the spec's vectors V1 to V156 (95_test_vectors.md), named in each test;
the witnesses show, for every statement with hypotheses, that a state and operands meet them. -/

namespace Sys2Proof.Tests

open Sys2Proof Sys2Proof.Machine

/-- A CPU on `p` with the given registers, PS as a byte, and bytes of memory. -/
def cpu (p : Part) (a x y sp ps : Byte) (pc : Addr) (cells : List Host.Cell) : State :=
  { State.reset with
    a := a, x := x, y := y, sp := sp, ps := PS.ofByte ps, pc := pc
    mem := cells.foldl (fun m c => m.set c.1 c.2) []
    cfg := { Config.atReset with part := p } }

/-- What `f` reads in the state after one step; nothing where there is none. -/
def after {α : Type} (s : State) (f : State → α) : Option α :=
  match step s with
  | .next t => some (f t)
  | .fault _ => none
  | .refused _ => none

/-- The fault of the step. -/
def faultAfter (s : State) : Option Fault :=
  match step s with
  | .fault f => some f
  | .next _ => none
  | .refused _ => none

/-- The refusal of the step. -/
def refusalAfter (s : State) : Option Refusal :=
  match step s with
  | .refused r => some r
  | .next _ => none
  | .fault _ => none

/-- Every listed word decodes on `p` to the instruction beside it, and that instruction encodes to the word. -/
def reads (p : Part) (words : List (List Byte × Instr)) : Bool :=
  words.all fun w =>
    decide (decode p (w.1.getD 0 0x00#8) (w.1.getD 1 0x00#8) (w.1.getD 2 0x00#8) = .ok w.2) && encode w.2 == w.1

/-! ### What a family member lacks is ill-formed -/

theorem test_wf_stp_without_stp : ¬WellFormed .m50752 .stp := by decide
theorem test_wf_wit_without_wit : ¬WellFormed .m50740 .wit := by decide
theorem test_wf_slw_without_slw : ¬WellFormed .series38000 .slw := by decide
theorem test_wf_fst_without_fst : ¬WellFormed .series7470 .fst := by decide
theorem test_wf_mul_without_mul : ¬WellFormed .series7470 (.mulZpX 0x10#8) := by decide
theorem test_wf_div_without_div : ¬WellFormed .m50740 (.divZpX 0x10#8) := by decide
theorem test_wf_everything_else : WellFormed .m50752 .brk ∧ WellFormed .m50752 .slw ∧ WellFormed .other .wit := by decide

/-! ### Decoding: every row of the opcode table, bit by bit -/

theorem test_decode_lda : reads .series38000 [
    ([0b10101001#8, 0b00010010#8], .ldaImm 0b00010010#8),
    ([0b10100101#8, 0b00010010#8], .ldaZp 0b00010010#8),
    ([0b10110101#8, 0b00010010#8], .ldaZpX 0b00010010#8),
    ([0b10101101#8, 0b00010010#8, 0b10101101#8], .ldaAbs 0b1010110100010010#16),
    ([0b10111101#8, 0b00010010#8, 0b10101101#8], .ldaAbsX 0b1010110100010010#16),
    ([0b10111001#8, 0b00010010#8, 0b10101101#8], .ldaAbsY 0b1010110100010010#16),
    ([0b10100001#8, 0b00010010#8], .ldaIndX 0b00010010#8),
    ([0b10110001#8, 0b00010010#8], .ldaIndY 0b00010010#8)] = true := by decide

theorem test_decode_ldx : reads .series38000 [
    ([0b10100010#8, 0b00010010#8], .ldxImm 0b00010010#8),
    ([0b10100110#8, 0b00010010#8], .ldxZp 0b00010010#8),
    ([0b10110110#8, 0b00010010#8], .ldxZpY 0b00010010#8),
    ([0b10101110#8, 0b00010010#8, 0b10101101#8], .ldxAbs 0b1010110100010010#16),
    ([0b10111110#8, 0b00010010#8, 0b10101101#8], .ldxAbsY 0b1010110100010010#16)] = true := by decide

theorem test_decode_ldy : reads .series38000 [
    ([0b10100000#8, 0b00010010#8], .ldyImm 0b00010010#8),
    ([0b10100100#8, 0b00010010#8], .ldyZp 0b00010010#8),
    ([0b10110100#8, 0b00010010#8], .ldyZpX 0b00010010#8),
    ([0b10101100#8, 0b00010010#8, 0b10101101#8], .ldyAbs 0b1010110100010010#16),
    ([0b10111100#8, 0b00010010#8, 0b10101101#8], .ldyAbsX 0b1010110100010010#16)] = true := by decide

theorem test_decode_sta : reads .series38000 [
    ([0b10000101#8, 0b00010010#8], .staZp 0b00010010#8),
    ([0b10010101#8, 0b00010010#8], .staZpX 0b00010010#8),
    ([0b10001101#8, 0b00010010#8, 0b10101101#8], .staAbs 0b1010110100010010#16),
    ([0b10011101#8, 0b00010010#8, 0b10101101#8], .staAbsX 0b1010110100010010#16),
    ([0b10011001#8, 0b00010010#8, 0b10101101#8], .staAbsY 0b1010110100010010#16),
    ([0b10000001#8, 0b00010010#8], .staIndX 0b00010010#8),
    ([0b10010001#8, 0b00010010#8], .staIndY 0b00010010#8)] = true := by decide

theorem test_decode_stx : reads .series38000 [
    ([0b10000110#8, 0b00010010#8], .stxZp 0b00010010#8),
    ([0b10010110#8, 0b00010010#8], .stxZpY 0b00010010#8),
    ([0b10001110#8, 0b00010010#8, 0b10101101#8], .stxAbs 0b1010110100010010#16)] = true := by decide

theorem test_decode_sty : reads .series38000 [
    ([0b10000100#8, 0b00010010#8], .styZp 0b00010010#8),
    ([0b10010100#8, 0b00010010#8], .styZpX 0b00010010#8),
    ([0b10001100#8, 0b00010010#8, 0b10101101#8], .styAbs 0b1010110100010010#16)] = true := by decide

theorem test_decode_load_store_1 : reads .series38000 [
    ([0b00111100#8, 0b00010010#8, 0b10101101#8], .ldm 0b00010010#8 0b10101101#8),
    ([0b10101010#8], .tax),
    ([0b10101000#8], .tay),
    ([0b10111010#8], .tsx),
    ([0b10001010#8], .txa),
    ([0b10011010#8], .txs),
    ([0b10011000#8], .tya),
    ([0b01001000#8], .pha),
    ([0b00001000#8], .php)] = true := by decide

theorem test_decode_load_store_2 : reads .series38000 [
    ([0b01101000#8], .pla),
    ([0b00101000#8], .plp)] = true := by decide

theorem test_decode_adc : reads .series38000 [
    ([0b01101001#8, 0b00010010#8], .adcImm 0b00010010#8),
    ([0b01100101#8, 0b00010010#8], .adcZp 0b00010010#8),
    ([0b01110101#8, 0b00010010#8], .adcZpX 0b00010010#8),
    ([0b01101101#8, 0b00010010#8, 0b10101101#8], .adcAbs 0b1010110100010010#16),
    ([0b01111101#8, 0b00010010#8, 0b10101101#8], .adcAbsX 0b1010110100010010#16),
    ([0b01111001#8, 0b00010010#8, 0b10101101#8], .adcAbsY 0b1010110100010010#16),
    ([0b01100001#8, 0b00010010#8], .adcIndX 0b00010010#8),
    ([0b01110001#8, 0b00010010#8], .adcIndY 0b00010010#8)] = true := by decide

theorem test_decode_sbc : reads .series38000 [
    ([0b11101001#8, 0b00010010#8], .sbcImm 0b00010010#8),
    ([0b11100101#8, 0b00010010#8], .sbcZp 0b00010010#8),
    ([0b11110101#8, 0b00010010#8], .sbcZpX 0b00010010#8),
    ([0b11101101#8, 0b00010010#8, 0b10101101#8], .sbcAbs 0b1010110100010010#16),
    ([0b11111101#8, 0b00010010#8, 0b10101101#8], .sbcAbsX 0b1010110100010010#16),
    ([0b11111001#8, 0b00010010#8, 0b10101101#8], .sbcAbsY 0b1010110100010010#16),
    ([0b11100001#8, 0b00010010#8], .sbcIndX 0b00010010#8),
    ([0b11110001#8, 0b00010010#8], .sbcIndY 0b00010010#8)] = true := by decide

theorem test_decode_and : reads .series38000 [
    ([0b00101001#8, 0b00010010#8], .andImm 0b00010010#8),
    ([0b00100101#8, 0b00010010#8], .andZp 0b00010010#8),
    ([0b00110101#8, 0b00010010#8], .andZpX 0b00010010#8),
    ([0b00101101#8, 0b00010010#8, 0b10101101#8], .andAbs 0b1010110100010010#16),
    ([0b00111101#8, 0b00010010#8, 0b10101101#8], .andAbsX 0b1010110100010010#16),
    ([0b00111001#8, 0b00010010#8, 0b10101101#8], .andAbsY 0b1010110100010010#16),
    ([0b00100001#8, 0b00010010#8], .andIndX 0b00010010#8),
    ([0b00110001#8, 0b00010010#8], .andIndY 0b00010010#8)] = true := by decide

theorem test_decode_ora : reads .series38000 [
    ([0b00001001#8, 0b00010010#8], .oraImm 0b00010010#8),
    ([0b00000101#8, 0b00010010#8], .oraZp 0b00010010#8),
    ([0b00010101#8, 0b00010010#8], .oraZpX 0b00010010#8),
    ([0b00001101#8, 0b00010010#8, 0b10101101#8], .oraAbs 0b1010110100010010#16),
    ([0b00011101#8, 0b00010010#8, 0b10101101#8], .oraAbsX 0b1010110100010010#16),
    ([0b00011001#8, 0b00010010#8, 0b10101101#8], .oraAbsY 0b1010110100010010#16),
    ([0b00000001#8, 0b00010010#8], .oraIndX 0b00010010#8),
    ([0b00010001#8, 0b00010010#8], .oraIndY 0b00010010#8)] = true := by decide

theorem test_decode_eor : reads .series38000 [
    ([0b01001001#8, 0b00010010#8], .eorImm 0b00010010#8),
    ([0b01000101#8, 0b00010010#8], .eorZp 0b00010010#8),
    ([0b01010101#8, 0b00010010#8], .eorZpX 0b00010010#8),
    ([0b01001101#8, 0b00010010#8, 0b10101101#8], .eorAbs 0b1010110100010010#16),
    ([0b01011101#8, 0b00010010#8, 0b10101101#8], .eorAbsX 0b1010110100010010#16),
    ([0b01011001#8, 0b00010010#8, 0b10101101#8], .eorAbsY 0b1010110100010010#16),
    ([0b01000001#8, 0b00010010#8], .eorIndX 0b00010010#8),
    ([0b01010001#8, 0b00010010#8], .eorIndY 0b00010010#8)] = true := by decide

theorem test_decode_cmp : reads .series38000 [
    ([0b11001001#8, 0b00010010#8], .cmpImm 0b00010010#8),
    ([0b11000101#8, 0b00010010#8], .cmpZp 0b00010010#8),
    ([0b11010101#8, 0b00010010#8], .cmpZpX 0b00010010#8),
    ([0b11001101#8, 0b00010010#8, 0b10101101#8], .cmpAbs 0b1010110100010010#16),
    ([0b11011101#8, 0b00010010#8, 0b10101101#8], .cmpAbsX 0b1010110100010010#16),
    ([0b11011001#8, 0b00010010#8, 0b10101101#8], .cmpAbsY 0b1010110100010010#16),
    ([0b11000001#8, 0b00010010#8], .cmpIndX 0b00010010#8),
    ([0b11010001#8, 0b00010010#8], .cmpIndY 0b00010010#8)] = true := by decide

theorem test_decode_cpx : reads .series38000 [
    ([0b11100000#8, 0b00010010#8], .cpxImm 0b00010010#8),
    ([0b11100100#8, 0b00010010#8], .cpxZp 0b00010010#8),
    ([0b11101100#8, 0b00010010#8, 0b10101101#8], .cpxAbs 0b1010110100010010#16)] = true := by decide

theorem test_decode_cpy : reads .series38000 [
    ([0b11000000#8, 0b00010010#8], .cpyImm 0b00010010#8),
    ([0b11000100#8, 0b00010010#8], .cpyZp 0b00010010#8),
    ([0b11001100#8, 0b00010010#8, 0b10101101#8], .cpyAbs 0b1010110100010010#16)] = true := by decide

theorem test_decode_inc : reads .series38000 [
    ([0b00111010#8], .incA),
    ([0b11100110#8, 0b00010010#8], .incZp 0b00010010#8),
    ([0b11110110#8, 0b00010010#8], .incZpX 0b00010010#8),
    ([0b11101110#8, 0b00010010#8, 0b10101101#8], .incAbs 0b1010110100010010#16),
    ([0b11111110#8, 0b00010010#8, 0b10101101#8], .incAbsX 0b1010110100010010#16)] = true := by decide

theorem test_decode_dec : reads .series38000 [
    ([0b00011010#8], .decA),
    ([0b11000110#8, 0b00010010#8], .decZp 0b00010010#8),
    ([0b11010110#8, 0b00010010#8], .decZpX 0b00010010#8),
    ([0b11001110#8, 0b00010010#8, 0b10101101#8], .decAbs 0b1010110100010010#16),
    ([0b11011110#8, 0b00010010#8, 0b10101101#8], .decAbsX 0b1010110100010010#16)] = true := by decide

theorem test_decode_arithmetic_1 : reads .series38000 [
    ([0b00100100#8, 0b00010010#8], .bitZp 0b00010010#8),
    ([0b00101100#8, 0b00010010#8, 0b10101101#8], .bitAbs 0b1010110100010010#16),
    ([0b01100100#8, 0b00010010#8], .tstZp 0b00010010#8),
    ([0b01000100#8, 0b00010010#8], .comZp 0b00010010#8),
    ([0b11101000#8], .inx),
    ([0b11001000#8], .iny),
    ([0b11001010#8], .dex),
    ([0b10001000#8], .dey),
    ([0b01100010#8, 0b00010010#8], .mulZpX 0b00010010#8)] = true := by decide

theorem test_decode_arithmetic_2 : reads .series38000 [
    ([0b11100010#8, 0b00010010#8], .divZpX 0b00010010#8)] = true := by decide

theorem test_decode_asl : reads .series38000 [
    ([0b00001010#8], .aslA),
    ([0b00000110#8, 0b00010010#8], .aslZp 0b00010010#8),
    ([0b00010110#8, 0b00010010#8], .aslZpX 0b00010010#8),
    ([0b00001110#8, 0b00010010#8, 0b10101101#8], .aslAbs 0b1010110100010010#16),
    ([0b00011110#8, 0b00010010#8, 0b10101101#8], .aslAbsX 0b1010110100010010#16)] = true := by decide

theorem test_decode_lsr : reads .series38000 [
    ([0b01001010#8], .lsrA),
    ([0b01000110#8, 0b00010010#8], .lsrZp 0b00010010#8),
    ([0b01010110#8, 0b00010010#8], .lsrZpX 0b00010010#8),
    ([0b01001110#8, 0b00010010#8, 0b10101101#8], .lsrAbs 0b1010110100010010#16),
    ([0b01011110#8, 0b00010010#8, 0b10101101#8], .lsrAbsX 0b1010110100010010#16)] = true := by decide

theorem test_decode_rol : reads .series38000 [
    ([0b00101010#8], .rolA),
    ([0b00100110#8, 0b00010010#8], .rolZp 0b00010010#8),
    ([0b00110110#8, 0b00010010#8], .rolZpX 0b00010010#8),
    ([0b00101110#8, 0b00010010#8, 0b10101101#8], .rolAbs 0b1010110100010010#16),
    ([0b00111110#8, 0b00010010#8, 0b10101101#8], .rolAbsX 0b1010110100010010#16)] = true := by decide

theorem test_decode_ror : reads .series38000 [
    ([0b01101010#8], .rorA),
    ([0b01100110#8, 0b00010010#8], .rorZp 0b00010010#8),
    ([0b01110110#8, 0b00010010#8], .rorZpX 0b00010010#8),
    ([0b01101110#8, 0b00010010#8, 0b10101101#8], .rorAbs 0b1010110100010010#16),
    ([0b01111110#8, 0b00010010#8, 0b10101101#8], .rorAbsX 0b1010110100010010#16)] = true := by decide

theorem test_decode_bits_1 : reads .series38000 [
    ([0b10000010#8, 0b00010010#8], .rrfZp 0b00010010#8),
    ([0b10111011#8], .clbA 0b101#3),
    ([0b10111111#8, 0b00010010#8], .clbZp 0b101#3 0b00010010#8),
    ([0b10101011#8], .sebA 0b101#3),
    ([0b10101111#8, 0b00010010#8], .sebZp 0b101#3 0b00010010#8)] = true := by decide

theorem test_decode_flags_1 : reads .series38000 [
    ([0b00011000#8], .clc),
    ([0b00111000#8], .sec),
    ([0b11011000#8], .cld),
    ([0b11111000#8], .sed),
    ([0b01011000#8], .cli),
    ([0b01111000#8], .sei),
    ([0b00010010#8], .clt),
    ([0b00110010#8], .set),
    ([0b10111000#8], .clv)] = true := by decide

theorem test_decode_jmp : reads .series38000 [
    ([0b01001100#8, 0b00010010#8, 0b10101101#8], .jmpAbs 0b1010110100010010#16),
    ([0b01101100#8, 0b00010010#8, 0b10101101#8], .jmpInd 0b1010110100010010#16),
    ([0b10110010#8, 0b00010010#8], .jmpZpInd 0b00010010#8)] = true := by decide

theorem test_decode_jsr : reads .series38000 [
    ([0b00100000#8, 0b00010010#8, 0b10101101#8], .jsrAbs 0b1010110100010010#16),
    ([0b00000010#8, 0b00010010#8], .jsrZpInd 0b00010010#8),
    ([0b00100010#8, 0b00010010#8], .jsrSp 0b00010010#8)] = true := by decide

theorem test_decode_control_1 : reads .series38000 [
    ([0b01100000#8], .rts),
    ([0b01000000#8], .rti),
    ([0b10010000#8, 0b00010010#8], .bcc 0b00010010#8),
    ([0b10110000#8, 0b00010010#8], .bcs 0b00010010#8),
    ([0b11110000#8, 0b00010010#8], .beq 0b00010010#8),
    ([0b11010000#8, 0b00010010#8], .bne 0b00010010#8),
    ([0b00110000#8, 0b00010010#8], .bmi 0b00010010#8),
    ([0b00010000#8, 0b00010010#8], .bpl 0b00010010#8),
    ([0b01010000#8, 0b00010010#8], .bvc 0b00010010#8)] = true := by decide

theorem test_decode_control_2 : reads .series38000 [
    ([0b01110000#8, 0b00010010#8], .bvs 0b00010010#8),
    ([0b10000000#8, 0b00010010#8], .bra 0b00010010#8),
    ([0b10110011#8, 0b00010010#8], .bbcA 0b101#3 0b00010010#8),
    ([0b10110111#8, 0b00010010#8, 0b10101101#8], .bbcZp 0b101#3 0b00010010#8 0b10101101#8),
    ([0b10100011#8, 0b00010010#8], .bbsA 0b101#3 0b00010010#8),
    ([0b10100111#8, 0b00010010#8, 0b10101101#8], .bbsZp 0b101#3 0b00010010#8 0b10101101#8),
    ([0b00000000#8], .brk),
    ([0b11101010#8], .nop)] = true := by decide

theorem test_decode_clock_1 : reads .series38000 [
    ([0b01000010#8], .stp),
    ([0b11000010#8], .wit)] = true := by decide

theorem test_decode_fst_slw : reads .m50740 [
    ([0b11100010#8], .fst),
    ([0b11000010#8], .slw)] = true := by decide

theorem test_decode_table_words :
    decodeTableWord 8 0x42 = some .stp ∧ decodeTableWord 8 0xC2 = some .wit ∧ decodeTableWord 8 0xE2 = some .fst ∧
    decodeTableWord 16 0x00E2 = some (.divZpX 0x00#8) ∧ decodeTableWord 24 0xAD127D = some (.adcAbsX 0xAD12#16) ∧
    decodeTableWord 8 0x04 = none := by decide

theorem test_fetch_word_runs : after (State.reset.withFetchWord 16 0x5AA9) (fun t => (t.a, t.pc)) =
    some (0x5A#8, 0x0002#16) := by decide

/-! ### One step: the spec's vectors -/

theorem test_v1_lda : after (cpu .series38000 0x55#8 0x00#8 0x00#8 0xFF#8 0x84#8 0x1000#16
    [(0x1000, 0xA9#8)])
    (fun t => (t.a, t.ps.toByte false, t.pc)) = some (0x00#8, 0x06#8, 0x1002#16) := by decide
theorem test_v3_lda : after (cpu .series38000 0x00#8 0x02#8 0x00#8 0xFF#8 0x04#8 0x1000#16
    [(0x0001, 0x7E#8), (0x0101, 0x99#8), (0x1000, 0xB5#8), (0x1001, 0xFF#8)])
    (fun t => (t.a, t.pc)) = some (0x7E#8, 0x1002#16) := by decide
theorem test_v4_lda : after (cpu .series38000 0x00#8 0x01#8 0x00#8 0xFF#8 0x04#8 0x1000#16
    [(0x0000, 0x42#8), (0x1000, 0xBD#8), (0x1001, 0xFF#8), (0x1002, 0xFF#8)])
    (fun t => (t.a, t.pc)) = some (0x42#8, 0x1003#16) := by decide
theorem test_v5_lda : after (cpu .series38000 0x00#8 0x00#8 0x00#8 0xFF#8 0x04#8 0x1000#16
    [(0x0000, 0x12#8), (0x00FF, 0x34#8), (0x0100, 0x77#8), (0x1234, 0xC3#8), (0x1000, 0xA1#8), (0x1001, 0xFF#8)])
    (fun t => (t.a, t.ps.toByte false, t.pc)) = some (0xC3#8, 0x84#8, 0x1002#16) := by decide
theorem test_v6_lda : after (cpu .series38000 0x00#8 0x00#8 0x01#8 0xFF#8 0x04#8 0x1000#16
    [(0x0000, 0x5A#8), (0x0010, 0xFF#8), (0x0011, 0xFF#8), (0x1000, 0xB1#8), (0x1001, 0x10#8)])
    (fun t => (t.a, t.pc)) = some (0x5A#8, 0x1002#16) := by decide
theorem test_v8_ldx : after (cpu .series38000 0x00#8 0x77#8 0x03#8 0xFF#8 0x04#8 0x1000#16
    [(0x1000, 0xB6#8), (0x1001, 0x02#8)])
    (fun t => (t.x, t.ps.toByte false, t.pc)) = some (0x00#8, 0x06#8, 0x1002#16) := by decide
theorem test_v9_ldy : after (cpu .series38000 0x00#8 0x10#8 0x00#8 0xFF#8 0x04#8 0x1000#16
    [(0x1244, 0xF0#8), (0x1000, 0xBC#8), (0x1001, 0x34#8), (0x1002, 0x12#8)])
    (fun t => (t.y, t.ps.toByte false, t.pc)) = some (0xF0#8, 0x84#8, 0x1003#16) := by decide
theorem test_v10_ldm : after (cpu .series38000 0x00#8 0x00#8 0x00#8 0xFF#8 0x04#8 0x1000#16
    [(0x1000, 0x3C#8), (0x1001, 0x5A#8), (0x1002, 0x30#8)])
    (fun t => (t.byteAt 0x0030#16, t.pc)) = some (0x5A#8, 0x1003#16) := by decide
theorem test_v11_sta : after (cpu .series38000 0xAB#8 0x00#8 0x01#8 0xFF#8 0x86#8 0x1000#16
    [(0x1000, 0x99#8), (0x1001, 0x34#8), (0x1002, 0x12#8)])
    (fun t => (t.byteAt 0x1235#16, t.pc)) = some (0xAB#8, 0x1003#16) := by decide
theorem test_v12_sta : after (cpu .series38000 0x77#8 0x00#8 0x10#8 0xFF#8 0x04#8 0x1000#16
    [(0x0020, 0xF8#8), (0x0021, 0x02#8), (0x1000, 0x91#8), (0x1001, 0x20#8)])
    (fun t => (t.byteAt 0x0308#16, t.pc)) = some (0x77#8, 0x1002#16) := by decide
theorem test_v13_stx : after (cpu .series38000 0x00#8 0x11#8 0x20#8 0xFF#8 0x04#8 0x1000#16
    [(0x1000, 0x96#8), (0x1001, 0xF0#8)])
    (fun t => (t.byteAt 0x0010#16, t.pc)) = some (0x11#8, 0x1002#16) := by decide
theorem test_v14_sty : after (cpu .series38000 0x00#8 0x00#8 0x99#8 0xFF#8 0x04#8 0x1000#16
    [(0x1000, 0x84#8), (0x1001, 0x40#8)])
    (fun t => (t.byteAt 0x0040#16, t.pc)) = some (0x99#8, 0x1002#16) := by decide
theorem test_v15_tax : after (cpu .series38000 0x80#8 0x00#8 0x00#8 0xFF#8 0x04#8 0x1000#16
    [(0x1000, 0xAA#8)])
    (fun t => (t.x, t.ps.toByte false, t.pc)) = some (0x80#8, 0x84#8, 0x1001#16) := by decide
theorem test_v16_tay : after (cpu .series38000 0x00#8 0x00#8 0x12#8 0xFF#8 0x04#8 0x1000#16
    [(0x1000, 0xA8#8)])
    (fun t => (t.y, t.ps.toByte false, t.pc)) = some (0x00#8, 0x06#8, 0x1001#16) := by decide
theorem test_v17_tsx : after (cpu .series38000 0x00#8 0x44#8 0x00#8 0x00#8 0x04#8 0x1000#16
    [(0x1000, 0xBA#8)])
    (fun t => (t.x, t.ps.toByte false, t.pc)) = some (0x00#8, 0x06#8, 0x1001#16) := by decide
theorem test_v18_txa : after (cpu .series38000 0x80#8 0x7F#8 0x00#8 0xFF#8 0x84#8 0x1000#16
    [(0x1000, 0x8A#8)])
    (fun t => (t.a, t.ps.toByte false, t.pc)) = some (0x7F#8, 0x04#8, 0x1001#16) := by decide
theorem test_v19_tya : after (cpu .series38000 0x00#8 0x00#8 0xFF#8 0xFF#8 0x04#8 0x1000#16
    [(0x1000, 0x98#8)])
    (fun t => (t.a, t.ps.toByte false, t.pc)) = some (0xFF#8, 0x84#8, 0x1001#16) := by decide
theorem test_v20_txs : after (cpu .series38000 0x00#8 0x00#8 0x00#8 0xFF#8 0x84#8 0x1000#16
    [(0x1000, 0x9A#8)])
    (fun t => (t.sp, t.pc)) = some (0x00#8, 0x1001#16) := by decide
theorem test_v21_pha : after (cpu .series38000 0x3C#8 0x00#8 0x00#8 0x00#8 0x04#8 0x1000#16
    [(0x1000, 0x48#8)])
    (fun t => (t.sp, t.byteAt 0x0100#16, t.pc)) = some (0xFF#8, 0x3C#8, 0x1001#16) := by decide
theorem test_v23_php : after (cpu .series38000 0x00#8 0x00#8 0x00#8 0xFF#8 0xE5#8 0x1000#16
    [(0x1000, 0x08#8)])
    (fun t => (t.sp, t.byteAt 0x01FF#16, t.pc)) = some (0xFE#8, 0xE5#8, 0x1001#16) := by decide
theorem test_v24_pla : after (cpu .series38000 0x00#8 0x00#8 0x00#8 0xFF#8 0x04#8 0x1000#16
    [(0x1000, 0x68#8)])
    (fun t => (t.sp, t.ps.toByte false, t.pc)) = some (0x00#8, 0x06#8, 0x1001#16) := by decide
theorem test_v25_plp : after (cpu .series38000 0x00#8 0x00#8 0x00#8 0xFD#8 0x04#8 0x1000#16
    [(0x01FE, 0xFF#8), (0x1000, 0x28#8)])
    (fun t => (t.sp, t.ps.toByte false, t.pc)) = some (0xFE#8, 0xEF#8, 0x1001#16) := by decide
theorem test_v29_adc : after (cpu .series38000 0x80#8 0x00#8 0x00#8 0xFF#8 0x04#8 0x1000#16
    [(0x1000, 0x69#8), (0x1001, 0x80#8)])
    (fun t => (t.a, t.ps.toByte false, t.pc)) = some (0x00#8, 0x47#8, 0x1002#16) := by decide
theorem test_v31_adc : after (cpu .series38000 0x10#8 0x00#8 0x00#8 0xFF#8 0x44#8 0x1000#16
    [(0x0002, 0x22#8), (0x1000, 0x65#8), (0x1001, 0x02#8)])
    (fun t => (t.a, t.ps.toByte false, t.pc)) = some (0x32#8, 0x04#8, 0x1002#16) := by decide
theorem test_v33_adc : after (cpu .series38000 0xEE#8 0x40#8 0x00#8 0xFF#8 0x24#8 0x1000#16
    [(0x0040, 0x21#8), (0x1000, 0x65#8), (0x1001, 0x40#8)])
    (fun t => (t.byteAt 0x0040#16, t.pc)) = some (0x42#8, 0x1002#16) := by decide
theorem test_v36_sbc : after (cpu .series38000 0x80#8 0x00#8 0x00#8 0xFF#8 0x05#8 0x1000#16
    [(0x1000, 0xE9#8), (0x1001, 0x01#8)])
    (fun t => (t.a, t.ps.toByte false, t.pc)) = some (0x7F#8, 0x45#8, 0x1002#16) := by decide
theorem test_v40_sbc : after (cpu .series38000 0x09#8 0x02#8 0x00#8 0xFF#8 0x05#8 0x1000#16
    [(0x0021, 0x14#8), (0x1400, 0x04#8), (0x1000, 0xE1#8), (0x1001, 0x1E#8)])
    (fun t => (t.a, t.pc)) = some (0x05#8, 0x1002#16) := by decide
theorem test_v42_adc : after (cpu .series38000 0x99#8 0x00#8 0x00#8 0xFF#8 0x0C#8 0x1000#16
    [(0x1000, 0x69#8), (0x1001, 0x01#8)])
    (fun t => (t.a, t.ps.c, t.pc)) = some (0x00#8, true, 0x1002#16) := by decide
theorem test_v44_sbc : after (cpu .series38000 0x12#8 0x00#8 0x00#8 0xFF#8 0x0D#8 0x1000#16
    [(0x1000, 0xE9#8), (0x1001, 0x21#8)])
    (fun t => (t.a, t.ps.c, t.pc)) = some (0x91#8, false, 0x1002#16) := by decide
theorem test_v48_and : after (cpu .series38000 0xF0#8 0x00#8 0x00#8 0xFF#8 0x04#8 0x1000#16
    [(0x1000, 0x29#8), (0x1001, 0x3C#8)])
    (fun t => (t.a, t.pc)) = some (0x30#8, 0x1002#16) := by decide
theorem test_v49_and : after (cpu .series38000 0xF0#8 0x00#8 0x00#8 0xFF#8 0x04#8 0x1000#16
    [(0x1000, 0x29#8), (0x1001, 0x0F#8)])
    (fun t => (t.a, t.ps.toByte false, t.pc)) = some (0x00#8, 0x06#8, 0x1002#16) := by decide
theorem test_v50_ora : after (cpu .series38000 0x0F#8 0x00#8 0x00#8 0xFF#8 0x04#8 0x1000#16
    [(0x0D00, 0x80#8), (0x1000, 0x0D#8), (0x1002, 0x0D#8)])
    (fun t => (t.a, t.ps.toByte false, t.pc)) = some (0x8F#8, 0x84#8, 0x1003#16) := by decide
theorem test_v51_eor : after (cpu .series38000 0xFF#8 0x00#8 0x00#8 0xFF#8 0x04#8 0x1000#16
    [(0x1000, 0x49#8), (0x1001, 0xFF#8)])
    (fun t => (t.a, t.ps.toByte false, t.pc)) = some (0x00#8, 0x06#8, 0x1002#16) := by decide
theorem test_v52_eor : after (cpu .series38000 0x00#8 0x10#8 0x00#8 0xFF#8 0x24#8 0x1000#16
    [(0x0010, 0xFF#8), (0x1000, 0x49#8), (0x1001, 0x55#8)])
    (fun t => (t.ps.toByte false, t.byteAt 0x0010#16, t.pc)) = some (0xA4#8, 0xAA#8, 0x1002#16) := by decide
theorem test_v53_bit : after (cpu .series38000 0x01#8 0x00#8 0x00#8 0xFF#8 0x04#8 0x1000#16
    [(0x0010, 0xC0#8), (0x1000, 0x24#8), (0x1001, 0x10#8)])
    (fun t => (t.ps.toByte false, t.pc)) = some (0xC6#8, 0x1002#16) := by decide
theorem test_v54_bit : after (cpu .series38000 0xFF#8 0x00#8 0x00#8 0xFF#8 0xC4#8 0x1000#16
    [(0x1234, 0x3F#8), (0x1000, 0x2C#8), (0x1001, 0x34#8), (0x1002, 0x12#8)])
    (fun t => (t.ps.toByte false, t.pc)) = some (0x04#8, 0x1003#16) := by decide
theorem test_v57_cmp : after (cpu .series38000 0x80#8 0x00#8 0x00#8 0xFF#8 0x04#8 0x1000#16
    [(0x1000, 0xC9#8)])
    (fun t => (t.ps.toByte false, t.pc)) = some (0x85#8, 0x1002#16) := by decide
theorem test_v58_cmp : after (cpu .series38000 0x00#8 0x30#8 0x00#8 0xFF#8 0x24#8 0x1000#16
    [(0x0030, 0x20#8), (0x1000, 0xC9#8), (0x1001, 0x20#8)])
    (fun t => (t.ps.toByte false, t.pc)) = some (0x27#8, 0x1002#16) := by decide
theorem test_v59_cpx : after (cpu .series38000 0x00#8 0x10#8 0x00#8 0xFF#8 0x04#8 0x1000#16
    [(0x1000, 0xE0#8), (0x1001, 0x10#8)])
    (fun t => (t.ps.toByte false, t.pc)) = some (0x07#8, 0x1002#16) := by decide
theorem test_v60_cpy : after (cpu .series38000 0x00#8 0x00#8 0x00#8 0xFF#8 0x04#8 0x1000#16
    [(0x1000, 0xC0#8), (0x1001, 0x01#8)])
    (fun t => (t.ps.toByte false, t.pc)) = some (0x84#8, 0x1002#16) := by decide
theorem test_v61_cpx : after (cpu .series38000 0x00#8 0xFF#8 0x00#8 0xFF#8 0x04#8 0x1000#16
    [(0x1234, 0x01#8), (0x1000, 0xEC#8), (0x1001, 0x34#8), (0x1002, 0x12#8)])
    (fun t => (t.ps.toByte false, t.pc)) = some (0x85#8, 0x1003#16) := by decide
theorem test_v62_tst : after (cpu .series38000 0x00#8 0x00#8 0x00#8 0xFF#8 0x04#8 0x1000#16
    [(0x1000, 0x64#8), (0x1001, 0x10#8)])
    (fun t => (t.ps.toByte false, t.pc)) = some (0x06#8, 0x1002#16) := by decide
theorem test_v63_tst : after (cpu .series38000 0x00#8 0x00#8 0x00#8 0xFF#8 0x06#8 0x1000#16
    [(0x0010, 0x80#8), (0x1000, 0x64#8), (0x1001, 0x10#8)])
    (fun t => (t.ps.toByte false, t.pc)) = some (0x84#8, 0x1002#16) := by decide
theorem test_v64_com : after (cpu .series38000 0x00#8 0x00#8 0x00#8 0xFF#8 0x04#8 0x1000#16
    [(0x0020, 0x0F#8), (0x1000, 0x44#8), (0x1001, 0x20#8)])
    (fun t => (t.ps.toByte false, t.byteAt 0x0020#16, t.pc)) = some (0x84#8, 0xF0#8, 0x1002#16) := by decide
theorem test_v65_com : after (cpu .series38000 0x00#8 0x00#8 0x00#8 0xFF#8 0x04#8 0x1000#16
    [(0x0020, 0xFF#8), (0x1000, 0x44#8), (0x1001, 0x20#8)])
    (fun t => (t.ps.toByte false, t.byteAt 0x0020#16, t.pc)) = some (0x06#8, 0x00#8, 0x1002#16) := by decide
theorem test_v66_inc : after (cpu .series38000 0xFF#8 0x00#8 0x00#8 0xFF#8 0x05#8 0x1000#16
    [(0x1000, 0x3A#8)])
    (fun t => (t.a, t.ps.toByte false, t.pc)) = some (0x00#8, 0x07#8, 0x1001#16) := by decide
theorem test_v67_inc : after (cpu .series38000 0x7F#8 0x00#8 0x00#8 0xFF#8 0x04#8 0x1000#16
    [(0x1000, 0x3A#8)])
    (fun t => (t.a, t.ps.toByte false, t.pc)) = some (0x80#8, 0x84#8, 0x1001#16) := by decide
theorem test_v68_dec : after (cpu .series38000 0x00#8 0x00#8 0x00#8 0xFF#8 0x04#8 0x1000#16
    [(0x1000, 0x1A#8)])
    (fun t => (t.a, t.ps.toByte false, t.pc)) = some (0xFF#8, 0x84#8, 0x1001#16) := by decide
theorem test_v69_inc : after (cpu .series38000 0x00#8 0x00#8 0x00#8 0xFF#8 0x04#8 0x1000#16
    [(0x0040, 0xFF#8), (0x1000, 0xE6#8), (0x1001, 0x40#8)])
    (fun t => (t.ps.toByte false, t.byteAt 0x0040#16, t.pc)) = some (0x06#8, 0x00#8, 0x1002#16) := by decide
theorem test_v70_dec : after (cpu .series38000 0x00#8 0x01#8 0x00#8 0xFF#8 0x04#8 0x1000#16
    [(0x1235, 0x01#8), (0x1000, 0xDE#8), (0x1001, 0x34#8), (0x1002, 0x12#8)])
    (fun t => (t.ps.toByte false, t.byteAt 0x1235#16, t.pc)) = some (0x06#8, 0x00#8, 0x1003#16) := by decide
theorem test_v71_inx : after (cpu .series38000 0x00#8 0xFF#8 0x00#8 0xFF#8 0x04#8 0x1000#16
    [(0x1000, 0xE8#8)])
    (fun t => (t.x, t.ps.toByte false, t.pc)) = some (0x00#8, 0x06#8, 0x1001#16) := by decide
theorem test_v72_iny : after (cpu .series38000 0x00#8 0x00#8 0x7F#8 0xFF#8 0x04#8 0x1000#16
    [(0x1000, 0xC8#8)])
    (fun t => (t.y, t.ps.toByte false, t.pc)) = some (0x80#8, 0x84#8, 0x1001#16) := by decide
theorem test_v73_dex : after (cpu .series38000 0x00#8 0x00#8 0x00#8 0xFF#8 0x04#8 0x1000#16
    [(0x1000, 0xCA#8)])
    (fun t => (t.x, t.ps.toByte false, t.pc)) = some (0xFF#8, 0x84#8, 0x1001#16) := by decide
theorem test_v74_dey : after (cpu .series38000 0x00#8 0x00#8 0x01#8 0xFF#8 0x04#8 0x1000#16
    [(0x1000, 0x88#8)])
    (fun t => (t.y, t.ps.toByte false, t.pc)) = some (0x00#8, 0x06#8, 0x1001#16) := by decide
theorem test_v75_mul : after (cpu .series38000 0x12#8 0x02#8 0x00#8 0xFF#8 0x04#8 0x1000#16
    [(0x0012, 0x34#8), (0x1000, 0x62#8), (0x1001, 0x10#8)])
    (fun t => (t.a, t.sp, t.byteAt 0x01FF#16, t.pc)) = some (0xA8#8, 0xFE#8, 0x03#8, 0x1002#16) := by decide
theorem test_v78_mul : after (cpu .series38000 0x02#8 0x20#8 0x00#8 0xFF#8 0x04#8 0x1000#16
    [(0x0010, 0x03#8), (0x1000, 0x62#8), (0x1001, 0xF0#8)])
    (fun t => (t.a, t.sp, t.byteAt 0x01FF#16, t.pc)) = some (0x06#8, 0xFE#8, 0x00#8, 0x1002#16) := by decide
theorem test_v79_div : after (cpu .series38000 0x56#8 0x00#8 0x00#8 0xFF#8 0x04#8 0x1000#16
    [(0x0010, 0x34#8), (0x0011, 0x12#8), (0x1000, 0xE2#8), (0x1001, 0x10#8)])
    (fun t => (t.a, t.sp, t.byteAt 0x01FF#16, t.pc)) = some (0x36#8, 0xFE#8, 0xEF#8, 0x1002#16) := by decide
theorem test_v81_div : after (cpu .series38000 0x10#8 0x00#8 0x00#8 0xFF#8 0x04#8 0x1000#16
    [(0x0000, 0x01#8), (0x1000, 0xE2#8), (0x1001, 0xFF#8)])
    (fun t => (t.sp, t.byteAt 0x01FF#16, t.pc)) = some (0xFE#8, 0xFF#8, 0x1002#16) := by decide
theorem test_v85_asl : after (cpu .series38000 0x81#8 0x00#8 0x00#8 0xFF#8 0x04#8 0x1000#16
    [(0x1000, 0x0A#8)])
    (fun t => (t.a, t.ps.toByte false, t.pc)) = some (0x02#8, 0x05#8, 0x1001#16) := by decide
theorem test_v86_asl : after (cpu .series38000 0x80#8 0x00#8 0x00#8 0xFF#8 0x04#8 0x1000#16
    [(0x1000, 0x0A#8)])
    (fun t => (t.a, t.ps.toByte false, t.pc)) = some (0x00#8, 0x07#8, 0x1001#16) := by decide
theorem test_v87_asl : after (cpu .series38000 0x00#8 0x00#8 0x00#8 0xFF#8 0x04#8 0x1000#16
    [(0x0E00, 0x40#8), (0x1000, 0x0E#8), (0x1002, 0x0E#8)])
    (fun t => (t.ps.toByte false, t.byteAt 0x0E00#16, t.pc)) = some (0x84#8, 0x80#8, 0x1003#16) := by decide
theorem test_v88_lsr : after (cpu .series38000 0x01#8 0x00#8 0x00#8 0xFF#8 0x84#8 0x1000#16
    [(0x1000, 0x4A#8)])
    (fun t => (t.a, t.ps.toByte false, t.pc)) = some (0x00#8, 0x07#8, 0x1001#16) := by decide
theorem test_v89_lsr : after (cpu .series38000 0x00#8 0x05#8 0x00#8 0xFF#8 0x04#8 0x1000#16
    [(0x0015, 0xFE#8), (0x1000, 0x56#8), (0x1001, 0x10#8)])
    (fun t => (t.byteAt 0x0015#16, t.pc)) = some (0x7F#8, 0x1002#16) := by decide
theorem test_v90_rol : after (cpu .series38000 0x80#8 0x00#8 0x00#8 0xFF#8 0x05#8 0x1000#16
    [(0x1000, 0x2A#8)])
    (fun t => (t.a, t.pc)) = some (0x01#8, 0x1001#16) := by decide
theorem test_v91_rol : after (cpu .series38000 0x40#8 0x00#8 0x00#8 0xFF#8 0x04#8 0x1000#16
    [(0x1000, 0x2A#8)])
    (fun t => (t.a, t.ps.toByte false, t.pc)) = some (0x80#8, 0x84#8, 0x1001#16) := by decide
theorem test_v92_ror : after (cpu .series38000 0x01#8 0x00#8 0x00#8 0xFF#8 0x04#8 0x1000#16
    [(0x1000, 0x6A#8)])
    (fun t => (t.a, t.ps.toByte false, t.pc)) = some (0x00#8, 0x07#8, 0x1001#16) := by decide
theorem test_v93_ror : after (cpu .series38000 0x00#8 0x00#8 0x00#8 0xFF#8 0x05#8 0x1000#16
    [(0x1000, 0x6A#8)])
    (fun t => (t.a, t.ps.toByte false, t.pc)) = some (0x80#8, 0x84#8, 0x1001#16) := by decide
theorem test_v94_ror : after (cpu .series38000 0x00#8 0x00#8 0x00#8 0xFF#8 0x05#8 0x1000#16
    [(0x1234, 0x02#8), (0x1000, 0x6E#8), (0x1001, 0x34#8), (0x1002, 0x12#8)])
    (fun t => (t.ps.toByte false, t.byteAt 0x1234#16, t.pc)) = some (0x84#8, 0x81#8, 0x1003#16) := by decide
theorem test_v95_rrf : after (cpu .series38000 0x00#8 0x00#8 0x00#8 0xFF#8 0x05#8 0x1000#16
    [(0x0030, 0xA5#8), (0x1000, 0x82#8), (0x1001, 0x30#8)])
    (fun t => (t.byteAt 0x0030#16, t.pc)) = some (0x5A#8, 0x1002#16) := by decide
theorem test_v96_clb : after (cpu .series38000 0xFF#8 0x00#8 0x00#8 0xFF#8 0x04#8 0x1000#16
    [(0x1000, 0xBB#8)])
    (fun t => (t.a, t.pc)) = some (0xDF#8, 0x1001#16) := by decide
theorem test_v97_clb : after (cpu .series38000 0x00#8 0x00#8 0x00#8 0xFF#8 0x04#8 0x1000#16
    [(0x0004, 0xFF#8), (0x1000, 0xBF#8), (0x1001, 0x04#8)])
    (fun t => (t.byteAt 0x0004#16, t.pc)) = some (0xDF#8, 0x1002#16) := by decide
theorem test_v98_seb : after (cpu .series38000 0x00#8 0x00#8 0x00#8 0xFF#8 0x04#8 0x1000#16
    [(0x1000, 0xEB#8)])
    (fun t => (t.a, t.pc)) = some (0x80#8, 0x1001#16) := by decide
theorem test_v99_seb : after (cpu .series38000 0x00#8 0x00#8 0x00#8 0xFF#8 0x04#8 0x1000#16
    [(0x0010, 0x80#8), (0x1000, 0x0F#8), (0x1001, 0x10#8)])
    (fun t => (t.byteAt 0x0010#16, t.pc)) = some (0x81#8, 0x1002#16) := by decide
theorem test_v100_clb : after (cpu .series38000 0x00#8 0x00#8 0x00#8 0xFF#8 0x04#8 0x1000#16
    [(0x1000, 0x1F#8), (0x1001, 0x10#8)])
    (fun t => (t.byteAt 0x0010#16, t.pc)) = some (0x00#8, 0x1002#16) := by decide
theorem test_v101_clc : after (cpu .series38000 0x00#8 0x00#8 0x00#8 0xFF#8 0xEF#8 0x1000#16
    [(0x1000, 0x18#8)])
    (fun t => (t.ps.toByte false, t.pc)) = some (0xEE#8, 0x1001#16) := by decide
theorem test_v102_sec : after (cpu .series38000 0x00#8 0x00#8 0x00#8 0xFF#8 0x00#8 0x1000#16
    [(0x1000, 0x38#8)])
    (fun t => (t.ps.toByte false, t.pc)) = some (0x01#8, 0x1001#16) := by decide
theorem test_v103_cld : after (cpu .series38000 0x00#8 0x00#8 0x00#8 0xFF#8 0xEF#8 0x1000#16
    [(0x1000, 0xD8#8)])
    (fun t => (t.ps.toByte false, t.pc)) = some (0xE7#8, 0x1001#16) := by decide
theorem test_v104_sed : after (cpu .series38000 0x00#8 0x00#8 0x00#8 0xFF#8 0x00#8 0x1000#16
    [(0x1000, 0xF8#8)])
    (fun t => (t.ps.toByte false, t.pc)) = some (0x08#8, 0x1001#16) := by decide
theorem test_v105_cli : after (cpu .series38000 0x00#8 0x00#8 0x00#8 0xFF#8 0xEF#8 0x1000#16
    [(0x1000, 0x58#8)])
    (fun t => (t.ps.toByte false, t.pc)) = some (0xEB#8, 0x1001#16) := by decide
theorem test_v106_sei : after (cpu .series38000 0x00#8 0x00#8 0x00#8 0xFF#8 0x00#8 0x1000#16
    [(0x1000, 0x78#8)])
    (fun t => (t.ps.toByte false, t.pc)) = some (0x04#8, 0x1001#16) := by decide
theorem test_v107_clt : after (cpu .series38000 0x00#8 0x00#8 0x00#8 0xFF#8 0xEF#8 0x1000#16
    [(0x1000, 0x12#8)])
    (fun t => (t.ps.toByte false, t.pc)) = some (0xCF#8, 0x1001#16) := by decide
theorem test_v108_set : after (cpu .series38000 0x00#8 0x00#8 0x00#8 0xFF#8 0x00#8 0x1000#16
    [(0x1000, 0x32#8)])
    (fun t => (t.ps.toByte false, t.pc)) = some (0x20#8, 0x1001#16) := by decide
theorem test_v109_clv : after (cpu .series38000 0x00#8 0x00#8 0x00#8 0xFF#8 0xEF#8 0x1000#16
    [(0x1000, 0xB8#8)])
    (fun t => (t.ps.toByte false, t.pc)) = some (0xAF#8, 0x1001#16) := by decide
theorem test_v110_bcc : after (cpu .series38000 0x00#8 0x00#8 0x00#8 0xFF#8 0x04#8 0x1000#16
    [(0x1000, 0x90#8), (0x1001, 0xF2#8)])
    (fun t => (t.pc)) = some (0x0FF4#16) := by decide
theorem test_v111_bcc : after (cpu .series38000 0x00#8 0x00#8 0x00#8 0xFF#8 0x05#8 0x1000#16
    [(0x1000, 0x90#8), (0x1001, 0xF2#8)])
    (fun t => (t.pc)) = some (0x1002#16) := by decide
theorem test_v112_bcs : after (cpu .series38000 0x00#8 0x00#8 0x00#8 0xFF#8 0x05#8 0x2000#16
    [(0x2000, 0xB0#8), (0x2001, 0x05#8)])
    (fun t => (t.pc)) = some (0x2007#16) := by decide
theorem test_v113_beq : after (cpu .series38000 0x00#8 0x00#8 0x00#8 0xFF#8 0x06#8 0x2000#16
    [(0x2000, 0xF0#8), (0x2001, 0xFE#8)])
    (fun t => (t.pc)) = some (0x2000#16) := by decide
theorem test_v114_bne : after (cpu .series38000 0x00#8 0x00#8 0x00#8 0xFF#8 0x04#8 0x2002#16
    [(0x2002, 0xD0#8), (0x2003, 0xFD#8)])
    (fun t => (t.pc)) = some (0x2001#16) := by decide
theorem test_v115_bmi : after (cpu .series38000 0x00#8 0x00#8 0x00#8 0xFF#8 0x84#8 0x2000#16
    [(0x2000, 0x30#8), (0x2001, 0x7F#8)])
    (fun t => (t.pc)) = some (0x2081#16) := by decide
theorem test_v116_bpl : after (cpu .series38000 0x00#8 0x00#8 0x00#8 0xFF#8 0x04#8 0x2000#16
    [(0x2000, 0x10#8), (0x2001, 0x80#8)])
    (fun t => (t.pc)) = some (0x1F82#16) := by decide
theorem test_v117_bvc : after (cpu .series38000 0x00#8 0x00#8 0x00#8 0xFF#8 0x04#8 0x2000#16
    [(0x2000, 0x50#8)])
    (fun t => (t.pc)) = some (0x2002#16) := by decide
theorem test_v118_bvs : after (cpu .series38000 0x00#8 0x00#8 0x00#8 0xFF#8 0x04#8 0x2000#16
    [(0x2000, 0x70#8), (0x2001, 0x10#8)])
    (fun t => (t.pc)) = some (0x2002#16) := by decide
theorem test_v119_bvs : after (cpu .series38000 0x00#8 0x00#8 0x00#8 0xFF#8 0x44#8 0x2000#16
    [(0x2000, 0x70#8), (0x2001, 0x10#8)])
    (fun t => (t.pc)) = some (0x2012#16) := by decide
theorem test_v120_bra : after (cpu .series38000 0x00#8 0x00#8 0x00#8 0xFF#8 0x04#8 0x3000#16
    [(0x3000, 0x80#8), (0x3001, 0xFE#8)])
    (fun t => (t.pc)) = some (0x3000#16) := by decide
theorem test_v121_bra : after (cpu .series38000 0x00#8 0x00#8 0x00#8 0xFF#8 0x04#8 0xFFFD#16
    [(0xFFFD, 0x80#8), (0xFFFE, 0x02#8)])
    (fun t => (t.pc)) = some (0x0001#16) := by decide
theorem test_v122_bpl : after (cpu .series38000 0x00#8 0x00#8 0x00#8 0xFF#8 0x04#8 0x0010#16
    [(0x0010, 0x10#8), (0x0011, 0x80#8)])
    (fun t => (t.pc)) = some (0xFF92#16) := by decide
theorem test_v123_bbc : after (cpu .series38000 0xDF#8 0x00#8 0x00#8 0xFF#8 0x04#8 0x1000#16
    [(0x1000, 0xB3#8), (0x1001, 0xF2#8)])
    (fun t => (t.pc)) = some (0x0FF4#16) := by decide
theorem test_v124_bbc : after (cpu .series38000 0x20#8 0x00#8 0x00#8 0xFF#8 0x04#8 0x1000#16
    [(0x1000, 0xB3#8), (0x1001, 0xF2#8)])
    (fun t => (t.pc)) = some (0x1002#16) := by decide
theorem test_v125_bbc : after (cpu .series38000 0x00#8 0x00#8 0x00#8 0xFF#8 0x04#8 0x1000#16
    [(0x0004, 0xDF#8), (0x1000, 0xB7#8), (0x1001, 0x04#8), (0x1002, 0xF1#8)])
    (fun t => (t.pc)) = some (0x0FF4#16) := by decide
theorem test_v126_bbc : after (cpu .series38000 0x00#8 0x00#8 0x00#8 0xFF#8 0x04#8 0x1000#16
    [(0x0004, 0x20#8), (0x1000, 0xB7#8), (0x1001, 0x04#8), (0x1002, 0xF1#8)])
    (fun t => (t.pc)) = some (0x1003#16) := by decide
theorem test_v127_bbs : after (cpu .series38000 0x00#8 0x00#8 0x00#8 0xFF#8 0x04#8 0x2000#16
    [(0x0010, 0x80#8), (0x2000, 0xE7#8), (0x2001, 0x10#8), (0x2002, 0x02#8)])
    (fun t => (t.pc)) = some (0x2005#16) := by decide
theorem test_v128_bbs : after (cpu .series38000 0x00#8 0x00#8 0x00#8 0xFF#8 0x04#8 0x2000#16
    [(0x0010, 0x7F#8), (0x2000, 0xE7#8), (0x2001, 0x10#8), (0x2002, 0x02#8)])
    (fun t => (t.pc)) = some (0x2003#16) := by decide
theorem test_v129_bbs : after (cpu .series38000 0x01#8 0x00#8 0x00#8 0xFF#8 0x04#8 0x2000#16
    [(0x2000, 0x03#8), (0x2001, 0xFE#8)])
    (fun t => (t.pc)) = some (0x2000#16) := by decide
theorem test_v130_jmp : after (cpu .series38000 0x00#8 0x00#8 0x00#8 0xFF#8 0x04#8 0x1000#16
    [(0x1000, 0x4C#8), (0x1001, 0x34#8), (0x1002, 0x12#8)])
    (fun t => (t.pc)) = some (0x1234#16) := by decide
theorem test_v131_jmp : after (cpu .series38000 0x00#8 0x00#8 0x00#8 0xFF#8 0x04#8 0x1000#16
    [(0x1400, 0xFF#8), (0x1401, 0x1E#8), (0x1000, 0x6C#8), (0x1002, 0x14#8)])
    (fun t => (t.pc)) = some (0x1EFF#16) := by decide
theorem test_v134_jmp : after (cpu .series38000 0x00#8 0x00#8 0x00#8 0xFF#8 0x04#8 0x1000#16
    [(0x0000, 0x80#8), (0x0100, 0x90#8), (0x1000, 0xB2#8), (0x1001, 0xFF#8)])
    (fun t => (t.pc)) = some (0x8000#16) := by decide
theorem test_v135_jsr : after (cpu .series38000 0x00#8 0x00#8 0x00#8 0xFF#8 0x04#8 0x1000#16
    [(0x1000, 0x20#8), (0x1002, 0x20#8)])
    (fun t => (t.sp, t.byteAt 0x01FF#16, t.byteAt 0x01FE#16, t.pc)) = some (0xFD#8, 0x10#8, 0x02#8, 0x2000#16) := by decide
theorem test_v136_jsr : after (cpu .series38000 0x00#8 0x00#8 0x00#8 0xFF#8 0x04#8 0x1000#16
    [(0x1000, 0x22#8), (0x1001, 0xE0#8)])
    (fun t => (t.sp, t.byteAt 0x01FF#16, t.byteAt 0x01FE#16, t.pc)) = some (0xFD#8, 0x10#8, 0x01#8, 0xFFE0#16) := by decide
theorem test_v138_jsr : after (cpu .series38000 0x00#8 0x00#8 0x00#8 0xFF#8 0x04#8 0x1000#16
    [(0x0041, 0x30#8), (0x1000, 0x02#8), (0x1001, 0x40#8)])
    (fun t => (t.sp, t.byteAt 0x01FF#16, t.byteAt 0x01FE#16, t.pc)) = some (0xFD#8, 0x10#8, 0x01#8, 0x3000#16) := by decide
theorem test_v139_jsr : after (cpu .series38000 0x00#8 0x00#8 0x00#8 0x00#8 0x04#8 0x1000#16
    [(0x1000, 0x20#8), (0x1002, 0x20#8)])
    (fun t => (t.sp, t.byteAt 0x0100#16, t.byteAt 0x01FF#16, t.pc)) = some (0xFE#8, 0x10#8, 0x02#8, 0x2000#16) := by decide
theorem test_v140_rts : after (cpu .series38000 0x00#8 0x00#8 0x00#8 0xFD#8 0x04#8 0x1000#16
    [(0x01FE, 0x02#8), (0x01FF, 0x10#8), (0x1000, 0x60#8)])
    (fun t => (t.sp, t.pc)) = some (0xFF#8, 0x1003#16) := by decide
theorem test_v141_rts : after (cpu .series38000 0x00#8 0x00#8 0x00#8 0xFD#8 0x04#8 0x1000#16
    [(0x01FE, 0xFF#8), (0x01FF, 0xFF#8), (0x1000, 0x60#8)])
    (fun t => (t.sp, t.pc)) = some (0xFF#8, 0x0000#16) := by decide
theorem test_v142_rti : after (cpu .series38000 0x00#8 0x00#8 0x00#8 0xFC#8 0x04#8 0x1000#16
    [(0x01FD, 0x31#8), (0x01FE, 0x34#8), (0x01FF, 0x12#8), (0x1000, 0x40#8)])
    (fun t => (t.sp, t.ps.toByte false, t.pc)) = some (0xFF#8, 0x21#8, 0x1234#16) := by decide
theorem test_v143_brk : after (cpu .series38000 0x00#8 0x00#8 0x00#8 0xFF#8 0x21#8 0x1000#16
    [(0xFFF5, 0x30#8)])
    (fun t => (t.sp, t.ps.toByte false, t.byteAt 0x01FF#16, t.byteAt 0x01FE#16, t.byteAt 0x01FD#16, t.pc)) = some (0xFC#8, 0x25#8, 0x10#8, 0x01#8, 0x31#8, 0x3000#16) := by decide
theorem test_v145_brk : after (cpu .series38000 0x00#8 0x00#8 0x00#8 0xFF#8 0x00#8 0x1000#16
    [(0xFFF5, 0x30#8)])
    (fun t => (t.sp, t.ps.toByte false, t.byteAt 0x01FF#16, t.byteAt 0x01FE#16, t.byteAt 0x01FD#16, t.pc)) = some (0xFC#8, 0x04#8, 0x10#8, 0x01#8, 0x10#8, 0x3000#16) := by decide
theorem test_v146_nop : after (cpu .series38000 0x00#8 0x00#8 0x00#8 0xFF#8 0xEF#8 0x4000#16
    [(0x4000, 0xEA#8)])
    (fun t => (t.pc)) = some (0x4001#16) := by decide
theorem test_v147_nop : after (cpu .series38000 0x00#8 0x00#8 0x00#8 0xFF#8 0x04#8 0xFFFF#16
    [(0xFFFF, 0xEA#8)])
    (fun t => (t.pc)) = some (0x0000#16) := by decide
theorem test_v150_stp : after (cpu .series38000 0x00#8 0x00#8 0x00#8 0xFF#8 0x04#8 0x5000#16
    [(0x5000, 0x42#8)])
    (fun t => (t.pc, t.run)) = some (0x5001#16, .stoppedStp) := by decide
theorem test_v152_wit : after (cpu .series38000 0x00#8 0x00#8 0x00#8 0xFF#8 0x04#8 0x5000#16
    [(0x5000, 0xC2#8)])
    (fun t => (t.pc, t.run)) = some (0x5001#16, .stoppedWit) := by decide
theorem test_v153_slw : after (cpu .m50740 0x00#8 0x00#8 0x00#8 0xFF#8 0x04#8 0x6001#16
    [(0x6001, 0xC2#8)])
    (fun t => (t.pc)) = some (0x6002#16) := by decide

/-- V84: E2 where FST is. -/
theorem test_v84_fst : after (cpu .m50740 0x00#8 0x00#8 0x00#8 0xFF#8 0x04#8 0x1000#16 [(0x1000, 0xE2#8)])
    (fun t => (t.xoutf, t.pc)) = some (true, 0x1001#16) := by decide

/-! ### Stops, interrupts, hazards, reset -/

/-- V155, V156, V151: unused opcodes and an opcode the part lacks. -/
theorem test_unused_opcode :
    faultAfter (cpu .series38000 0 0 0 0xFF#8 0x04#8 0x1000#16 [(0x1000, 0x04#8)]) = some (.unusedOpcode 0x04#8) ∧
    faultAfter (cpu .series38000 0 0 0 0xFF#8 0x04#8 0x1000#16 [(0x1000, 0xFC#8)]) = some (.unusedOpcode 0xFC#8) ∧
    faultAfter (cpu .m50752 0 0 0 0xFF#8 0x04#8 0x5000#16 [(0x5000, 0x42#8)]) = some (.unsupportedOpcode 0x42#8) ∧
    faultAfter (cpu .series7470 0 0 0 0xFF#8 0x04#8 0x1000#16 [(0x1000, 0x62#8), (0x1001, 0x10#8)]) =
      some (.unsupportedOpcode 0x62#8) := by decide

/-- V132. -/
theorem test_v132_jmp : refusalAfter (cpu .series38000 0 0 0 0xFF#8 0x04#8 0x1000#16
    [(0x1000, 0x6C#8), (0x1001, 0xFF#8), (0x1002, 0x14#8)]) = some (.jmpIndirectAtPageEnd 0x14FF#16) := by decide

/-- Two sources: request bits 0 and 1 of 003C, enable bits 0 and 1 of 003E; the vectors FFF8 and FFF6. -/
def twoSources : Config :=
  { Config.atReset with
    part := .series7470
    sources := [⟨"INT1", 0xFFF8#16, ⟨0x003C#16, 0#3⟩, ⟨0x003E#16, 0#3⟩, false, false⟩,
      ⟨"TIMER1", 0xFFF6#16, ⟨0x003C#16, 1#3⟩, ⟨0x003E#16, 1#3⟩, true, false⟩] }

/-- A CPU at 1234 with those two sources, the request and enable bytes given, and the bytes of an instruction. -/
def irqCpu (ps request enable : Byte) (bytes : List Byte) : State :=
  { cpu .series7470 0x00#8 0x00#8 0x00#8 0xFF#8 ps 0x1234#16
      [(0x003C, request), (0x003E, enable), (0x1234, bytes.getD 0 0#8), (0x1235, bytes.getD 1 0#8),
        (0x1236, bytes.getD 2 0#8), (0xFFF9, 0x40#8), (0xFFF7, 0x50#8)] with
    cfg := twoSources }

/-- V148: entry of the source at FFF8, the stacked PS with bit 4 = 0, I set. -/
theorem test_v148_interrupt : after (irqCpu 0x21#8 0x01#8 0x01#8 [0xEA#8])
    (fun t => (t.pc, t.sp, t.ps.toByte false, t.byteAt 0x01FF#16, t.byteAt 0x01FE#16, t.byteAt 0x01FD#16)) =
    some (0x4000#16, 0xFC#8, 0x25#8, 0x12#8, 0x34#8, 0x21#8) := by decide

/-- V149: with I = 1 the instruction runs instead. -/
theorem test_v149_interrupt : after (irqCpu 0x25#8 0x01#8 0x01#8 [0xEA#8]) (fun t => (t.pc, t.sp)) =
    some (0x1235#16, 0xFF#8) := by decide

/-- R317: both acceptable, the first source is entered; only the second enabled, the second is. -/
theorem test_interrupt_priority :
    after (irqCpu 0x00#8 0x03#8 0x03#8 [0xEA#8]) (fun t => (t.pc, t.byteAt 0x003C#16)) = some (0x4000#16, 0x02#8) ∧
    after (irqCpu 0x00#8 0x03#8 0x02#8 [0xEA#8]) (fun t => (t.pc, t.byteAt 0x003C#16)) = some (0x5000#16, 0x01#8) := by
  decide

/-- R350, R351: reset in a stopped state. -/
theorem test_reset_event :
    after { irqCpu 0x00#8 0x00#8 0x02#8 [0xEA#8] with run := .stoppedStp, script := [⟨[], false, false, true⟩] }
      (fun t => (t.ps.i, t.run, t.latch ⟨0x003C#16, 1#3⟩, t.latch ⟨0x003E#16, 1#3⟩, t.pc)) =
    some (true, .running, true, false, 0x0000#16) := by decide

/-- R304: a stopped CPU stays; an external event lets it run on. -/
theorem test_stopped :
    after { cpu .series38000 0 0 0 0xFF#8 0x04#8 0x1000#16 [(0x1000, 0xE8#8)] with run := .stoppedWit }
      (fun t => (t.x, t.pc, t.run)) = some (0x00#8, 0x1000#16, .stoppedWit) ∧
    after { cpu .series38000 0 0 0 0xFF#8 0x04#8 0x1000#16 [(0x1000, 0xE8#8)] with
        run := .stoppedWit, script := [⟨[], true, false, false⟩] }
      (fun t => (t.x, t.pc, t.run)) = some (0x01#8, 0x1001#16, .running) := by decide

/-- R353: a NOP after PLP keeps the flags that PLP pulled, on a part that needs it. -/
theorem test_plp_nop :
    after { cpu .series7470 0 0 0 0xFF#8 0xE5#8 0x1000#16 [(0x1000, 0xEA#8)] with window := ⟨true, false, [], []⟩ }
      (fun t => (t.ps.toByte false, t.window.afterPlp)) = some (0xE5#8, false) := by decide

/-- R355: one STA clears the request and sets the enable bit of a source that has both in one byte; the next boundary
enters it all the same. -/
def oneByteSource : State :=
  { cpu .series7470 0x02#8 0x00#8 0x00#8 0xFF#8 0x00#8 0x1000#16
      [(0x003E, 0x01#8), (0x1000, 0x85#8), (0x1001, 0x3E#8), (0xFFF9, 0x40#8)] with
    cfg := { twoSources with
      sources := [⟨"INT1", 0xFFF8#16, ⟨0x003E#16, 0#3⟩, ⟨0x003E#16, 1#3⟩, false, false⟩] } }

theorem test_clear_and_enable_together :
    after oneByteSource (fun t => (t.byteAt 0x003E#16, t.window.forced, after t (fun u => u.pc))) =
    some (0x02#8, [0], some 0x4000#16) := by decide

/-! ### Witnesses: the hypotheses of the statements can be met -/

/-- The CPU of the witnesses: NOP at 1000, everything else quiet. -/
def idle : State := cpu .series38000 0x02#8 0x00#8 0x00#8 0xFF#8 0x00#8 0x1000#16 [(0x1000, 0xEA#8)]

/-- The same on another part, with the instruction bytes given. -/
def running (p : Part) (ps : Byte) (bytes : List Byte) : State :=
  cpu p 0x02#8 0x00#8 0x00#8 0xFF#8 ps 0x1000#16
    [(0x1000, bytes.getD 0 0#8), (0x1001, bytes.getD 1 0#8), (0x1002, bytes.getD 2 0#8)]

/-- A memory map with all kinds of region: I/O that stores, RAM, a byte whose low half a write of 0 clears, a mirror of
the lower half, ROM; the rest is open bus. -/
def mapped : State :=
  { idle with cfg := { Config.atReset with
      memoryMap := [⟨0x0000#16, 0x003F#16, .io .environment .store⟩, ⟨0x0040#16, 0x7FFE#16, .ram⟩,
        ⟨0x7FFF#16, 0x7FFF#16, .io .held (.bits ⟨0x30#8, 0x0F#8, 0x00#8, 0x40#8, 0x00#8⟩)⟩,
        ⟨0x8000#16, 0x80FF#16, .unmapped (.mirror 0x0000#16 0x7FFF#16)⟩, ⟨0xC000#16, 0xFFFF#16, .rom .ignore⟩] } }

/-- P17: a write to the bits that only a 0 clears and only a 1 sets, through the mirror of RAM, to ROM; and with the
special page 1F, an address above ADDR_TOP that mirrors the 8 KB below. -/
theorem test_region_behaviours :
    (({ mapped with mem := [(0x7FFF, 0x8A#8)] } : State).write 0x7FFF#16 0x76#8).byteAt 0x7FFF#16 = 0xF2#8 ∧
    (mapped.write 0x8040#16 0x55#8).byteAt 0x0040#16 = 0x55#8 ∧
    (mapped.write 0x8040#16 0x55#8).read .data 0x8040#16 = 0x55#8 ∧
    mapped.write 0xC000#16 0x55#8 = mapped ∧
    (({ idle with cfg := { idle.cfg with specialPageHi := 0x1F#8, hole := .mirror 0x0000#16 0x1FFF#16 } } : State).read
      .data 0x3000#16) = 0xEA#8 ∧
    (({ idle with cfg := { idle.cfg with specialPageHi := 0x1F#8, hole := .bus (.fixed 0xFF#8) .ignore } } : State).read
      .data 0x3000#16) = 0xFF#8 := by decide

/-- R24: the idle CPU on a part with the Stack Page Selection Bit, bit 2 of 003B, which is the value given. -/
def paged (sps : Byte) (sp : Byte) : State :=
  { cpu .series38000 0x02#8 0x00#8 0x00#8 sp 0x00#8 0x1000#16 [(0x003B, sps), (0x1000, 0xEA#8)] with
    cfg := { Config.atReset with hasSps := true, spsAddr := 0x3B#8, spsBit := 2#3 } }

theorem test_witness_DecodeOfEncodeIsTheInstruction :
    WellFormed .m50740 .fst ∧ WellFormed .series38000 (.divZpX 0xFF#8) ∧ WellFormed .other (.bbsZp 7#3 0xFF#8 0x80#8) := by
  decide
theorem test_witness_EncodeOfDecodeIsTheBytes :
    decode .series38000 0xF7#8 0xFF#8 0x80#8 = .ok (.bbcZp 7#3 0xFF#8 0x80#8) ∧
    decode .m50752 0xC2#8 0x00#8 0x00#8 = .ok .slw := by decide
theorem test_witness_OpcodesWithoutInstructionFault :
    (running .series38000 0#8 [0x04#8]).run = .running ∧ (running .series38000 0#8 [0x04#8]).input = .quiet ∧
    (running .series38000 0#8 [0x04#8]).nextInterrupt = none ∧
    (running .series38000 0#8 [0x04#8]).fetch = .error (.unused 0x04#8) ∧
    (running .m50752 0#8 [0x62#8]).nextInterrupt = none ∧
    (running .m50752 0#8 [0x62#8]).fetch = .error (.unsupported 0x62#8) := by decide
theorem test_witness_DeviceDependentOpcodesFollowThePart :
    Part.series7470.hasWit = true ∧ Part.m50740.hasFstSlw = true ∧ Part.series7450.hasMulDiv = true ∧
    Part.series7470.hasMulDiv = false ∧ Part.series7470.hasFstSlw = false := by decide
theorem test_witness_BitInstructionOpcodesHoldTheBitNumber :
    (0x03#8 : Byte).toNat % 4 = 3 ∧ (0xFF#8 : Byte).toNat % 4 = 3 ∧ (0x00#8 : Byte).toNat % 4 ≠ 3 ∧
    decode .other 0x00#8 0#8 0#8 = .ok .brk := by decide
theorem test_witness_MemoryReadsWhatWasWritten :
    mapAt mapped.cfg 0x0040#16 = .ram ∧ mapAt mapped.cfg 0x7FFE#16 = .ram ∧ mapped.window.fresh = [] ∧
    writeRuleOf (kindAt mapped.cfg 0xC000#16) = .ignore ∧ writeRuleOf (kindAt mapped.cfg 0xFFFF#16) = .ignore ∧
    writeRuleOf (kindAt mapped.cfg 0x8100#16) = .ignore ∧ writeRuleOf (kindAt mapped.cfg 0x003F#16) = .store ∧
    mapAt mapped.cfg 0x8040#16 = .unmapped (.mirror 0x0000#16 0x7FFF#16) ∧
    mapAt mapped.cfg (0x0000#16 + (0x8040#16 &&& 0x7FFF#16)) = .ram := by decide
/-- The stack on a fixed page, in page 1 by the Stack Page Selection Bit, and in page 0, just above and, wrapping, far
from the bit's byte. -/
theorem test_witness_PlainStack :
    PlainStack 3 idle ∧ PlainStack 3 (paged 0x04#8 0x3C#8) ∧ PlainStack 3 (paged 0x00#8 0x3E#8) ∧
    PlainStack 3 (paged 0x00#8 0x01#8) := by unfold PlainStack; decide
theorem test_witness_PushAndPullMoveTheStackPointer :
    PlainStack 1 idle ∧ PlainStack 1 { idle with sp := 0x00#8, cfg := { idle.cfg with stackPageFixedHi := 0x00#8 } } ∧
    PlainStack 1 (paged 0x00#8 0x3C#8) := by unfold PlainStack; decide
theorem test_witness_EffectiveAddressesWrapAsStated :
    (0x0000#16 : Addr).toNat = ((0xFF#8 : Byte).toNat + (0x01#8 : Byte).toNat) % 256 ∧
    (0x00FF#16 : Addr).toNat = (0xFF#8 : Byte).toNat ∧
    (0x0000#16 : Addr).toNat = ((0xFF#8 : Byte).toNat + 1) % 256 := by decide
theorem test_witness_LdaLoadsOrMovesTheOperand :
    (Instr.ldaIndY 0xFF#8).mnemonic = .lda ∧ idle.ps.t = false ∧ (running .series38000 0x20#8 []).ps.t = true := by decide
theorem test_witness_LdxAndLdyLoadTheirRegister :
    (Instr.ldxZpY 0xFF#8).mnemonic = .ldx ∧ (Instr.ldyAbsX 0xFFFF#16).mnemonic = .ldy := by decide
theorem test_witness_StoresWriteOneByte :
    (Instr.staIndX 0xFF#8).mnemonic = .sta ∧ (Instr.stxZpY 0xFF#8).mnemonic = .stx ∧
    (Instr.styAbs 0xFFFF#16).mnemonic = .sty := by decide
theorem test_witness_AdcBinaryAddsWithCarry : (Instr.adcImm 0xFF#8).mnemonic = .adc ∧ idle.ps.d = false := by decide
theorem test_witness_SbcBinarySubtractsWithBorrow : (Instr.sbcAbsY 0xFFFF#16).mnemonic = .sbc ∧ idle.ps.d = false := by
  decide
theorem test_witness_AdcDecimalAddsDecimalDigits :
    (Instr.adcImm 0x99#8).mnemonic = .adc ∧ (running .series38000 0x08#8 []).ps.d = true ∧
    validBcd (accOperand (running .series38000 0x08#8 [])) = true ∧
    validBcd ((Operand.imm 0x99#8).value (running .series38000 0x08#8 [])) = true := by decide
theorem test_witness_SbcDecimalSubtractsDecimalDigits :
    (Instr.sbcImm 0x99#8).mnemonic = .sbc ∧ (running .series38000 0x08#8 []).ps.d = true ∧
    validBcd (accOperand (running .series38000 0x08#8 [])) = true ∧
    validBcd ((Operand.imm 0x99#8).value (running .series38000 0x08#8 [])) = true := by decide
theorem test_witness_LogicWorksBitByBit :
    (Instr.andImm 0x00#8).mnemonic = .and ∧ (Instr.oraZp 0x00#8).mnemonic = .ora ∧
    (Instr.eorIndX 0x00#8).mnemonic = .eor := by decide
theorem test_witness_ComparesSetFlagsOnly :
    (Instr.cmpIndY 0x00#8).mnemonic = .cmp ∧ (Instr.cpxAbs 0x0000#16).mnemonic = .cpx ∧
    (Instr.cpyImm 0x00#8).mnemonic = .cpy := by decide
theorem test_witness_BitAndTstSetFlagsOnly : (Instr.bitAbs 0x0000#16).mnemonic = .bit := by decide
theorem test_witness_IncDecComAndRrfModifyInPlace :
    Instr.incA.mnemonic = .inc ∧ (Instr.decAbsX 0x0000#16).mnemonic = .dec ∧ (Instr.comZp 0x00#8).mnemonic = .com ∧
    (Instr.rrfZp 0x00#8).mnemonic = .rrf := by decide
/-- The greatest quotient that fits (05FF / 06 = FF), and the pointer at the page's end. -/
theorem test_witness_DivLeavesQuotientAndRemainder :
    (0x00FF#16 : Addr).toNat = ((0xFF#8 : Byte).toNat + (0x00#8 : Byte).toNat) % 256 ∧
    (0x0000#16 : Addr).toNat = ((0xFF#8 : Byte).toNat + (0x00#8 : Byte).toNat + 1) % 256 ∧
    (0x06#8 : Byte) ≠ 0x00#8 ∧ (256 * 0x05 + 0xFF) / (0x06#8 : Byte).toNat ≤ 255 ∧
    (cpu .series38000 0x06#8 0#8 0#8 0xFF#8 0#8 0x1000#16 [(0x0000, 0x05#8), (0x00FF, 0xFF#8)]).read .dataHi 0x0000#16 =
      0x05#8 := by decide
theorem test_witness_ShiftsAndRotatesMoveOneBit :
    Instr.aslA.mnemonic = .asl ∧ (Instr.lsrZpX 0xFF#8).mnemonic = .lsr ∧ (Instr.rolAbs 0#16).mnemonic = .rol ∧
    (Instr.rorAbsX 0#16).mnemonic = .ror := by decide
theorem test_witness_ClbAndSebChangeOneBit :
    (Instr.clbA 0#3).mnemonic = .clb ∧ (Instr.sebZp 7#3 0xFF#8).mnemonic = .seb := by decide
theorem test_witness_JmpGoesToItsTarget :
    (0x14FE#16 : Addr).toNat % 256 ≠ 255 ∧ (0x1500#16 : Addr).toNat % 256 ≠ 255 ∧
    (0x00FF#16 : Addr).toNat = (0xFF#8 : Byte).toNat ∧ (0x0000#16 : Addr).toNat = ((0xFF#8 : Byte).toNat + 1) % 256 := by
  decide
theorem test_witness_JmpIndirectAtPageEndFollowsThePlatform :
    loByte 0x14FF#16 = 0xFF#8 ∧ idle.cfg.jmpIndLastByte = .refuse ∧
    ({ idle with cfg := { idle.cfg with jmpIndLastByte := .samePage } } : State).cfg.jmpIndLastByte = .samePage ∧
    ({ idle with cfg := { idle.cfg with jmpIndLastByte := .nextPage } } : State).cfg.jmpIndLastByte = .nextPage := by
  decide
theorem test_witness_JsrStacksItsLastByteAddress :
    (Instr.jsrAbs 0xFFFF#16).mnemonic = .jsr ∧ (Instr.jsrSp 0xFF#8).mnemonic = .jsr ∧
    (Instr.jsrZpInd 0xFF#8).mnemonic = .jsr ∧ (0x00FF#16 : Addr).toNat = (0xFF#8 : Byte).toNat ∧
    (0x0000#16 : Addr).toNat = ((0xFF#8 : Byte).toNat + 1) % 256 := by decide
theorem test_witness_BitBranchesTestOneBit :
    (Instr.bbcA 7#3 0x80#8).mnemonic = .bbc ∧ (Instr.bbsZp 0#3 0x00#8 0x7F#8).mnemonic = .bbs := by decide
/-- Both sides of the BRK bug: it holds with I = 1 and a request enabled on a part with it, and not with I = 0
or with the request of one source and the enabling of another. -/
theorem test_witness_BrkEntersItsVector :
    (irqCpu 0x04#8 0x01#8 0x01#8 [0x00#8]).brkBugHolds = true ∧
    (irqCpu 0x04#8 0x01#8 0x01#8 [0x00#8]).window = .closed ∧
    (irqCpu 0x04#8 0x01#8 0x02#8 [0x00#8]).brkBugHolds = false ∧
    idle.cfg.part.brkBug = false ∧ (irqCpu 0x00#8 0x01#8 0x01#8 [0x00#8]).ps.i = false := by decide
/-- A CPU stopped by WIT at 1234, whose source 1 is enabled and can end the stop. -/
def waiting (ps : Byte) (e : EnvInput) : State :=
  { irqCpu ps 0x00#8 0x02#8 [0xEA#8] with
    run := .stoppedWit, script := [e, EnvInput.quiet], cfg := { twoSources with wakeWit := ⟨[1], true⟩ } }

/-- R304: a request of the waking source is entered, with the `next` of the WIT stacked; with I = 1, and where
recognition is postponed, execution resumes at that `next`; another source ends nothing. -/
theorem test_wake_by_interrupt :
    after (waiting 0x00#8 ⟨[1], false, false, false⟩)
      (fun t => (t.pc, t.byteAt 0x01FF#16, t.byteAt 0x01FE#16, t.run)) = some (0x5000#16, 0x12#8, 0x34#8, .running) ∧
    after (waiting 0x04#8 ⟨[1], false, false, false⟩) (fun t => (t.pc, t.run)) = some (0x1235#16, .running) ∧
    after (waiting 0x00#8 ⟨[1], false, true, false⟩) (fun t => (t.pc, t.byteAt 0x003C#16)) = some (0x1235#16, 0x02#8) ∧
    after (waiting 0x00#8 ⟨[0], false, false, false⟩) (fun t => (t.pc, t.run)) = some (0x1234#16, .stoppedWit) := by
  decide

/-- No wake event, an external one, one by a request that is accepted on a plain stack, one that is not accepted. -/
theorem test_witness_StpAndWitStopTheCpu :
    ((waiting 0x00#8 .quiet).run ≠ .running ∧ (waiting 0x00#8 .quiet).input.reset = false ∧
      ¬ WakeEvent (waiting 0x00#8 .quiet)) ∧
    WakeEvent (waiting 0x00#8 ⟨[], true, false, false⟩) ∧
    (1 ∈ (waiting 0x00#8 ⟨[1], false, false, false⟩).input.requests ∧ (twoSources.sources[1]?).isSome = true ∧
      ∀ k ∈ (waiting 0x00#8 ⟨[1], false, false, false⟩).input.requests, ∀ src ∈ twoSources.sources[k]?,
        src.request ≠ ⟨0x003C#16, 0#3⟩) ∧
    (WakeEvent (waiting 0x00#8 ⟨[1], false, false, false⟩) ∧
      (((waiting 0x00#8 ⟨[1], false, false, false⟩).atBoundary.setRun .running).nextInterrupt.map (fun p => p.1)) =
        some 1 ∧
      PlainStack 3 ((waiting 0x00#8 ⟨[1], false, false, false⟩).atBoundary.setRun .running) ∧
      ∀ src ∈ twoSources.sources,
        AcknowledgeSparesTheFrame ((waiting 0x00#8 ⟨[1], false, false, false⟩).atBoundary.setRun .running) src) ∧
    (WakeEvent (waiting 0x04#8 ⟨[1], false, false, false⟩) ∧
      ((waiting 0x04#8 ⟨[1], false, false, false⟩).atBoundary.setRun .running).nextInterrupt = none ∧
      ((waiting 0x04#8 ⟨[1], false, false, false⟩).atBoundary.setRun .running).fetch = .ok .nop) := by
  refine ⟨⟨by decide, by decide, ?_⟩, .inl (by decide), by decide,
    ⟨.inr ⟨1, by decide, .inl (by decide)⟩, by decide, ?_, ?_⟩,
    .inr ⟨1, by decide, .inl (by decide)⟩, by decide, by decide⟩
  · rintro (h | ⟨k, hk, h | ⟨src, h1, h2⟩⟩)
    · exact absurd h (by decide)
    · exact absurd h (by simp [State.input, waiting, EnvInput.quiet])
    · have hk1 : k = 1 := by simpa [State.wakeEvents, waiting] using hk
      subst hk1
      have : some src = some _ := h1.symm
      cases this
      exact absurd h2 (by decide)
  · unfold PlainStack; decide
  · unfold AcknowledgeSparesTheFrame; decide
/-- A NOP at a boundary at which recognition is postponed, with source 1 forced and enabled. -/
def waitingHere : State :=
  { irqCpu 0x00#8 0x00#8 0x02#8 [0xEA#8] with
    window := ⟨false, false, [], [1]⟩, script := [⟨[], false, true, false⟩, .quiet] }

/-- D10: the postponed boundary runs the NOP, the forced source is entered at the next. -/
theorem test_postponed :
    after waitingHere (fun t => (t.pc, t.window.forced, after t (fun u => u.pc))) =
    some (0x1235#16, [1], some 0x5000#16) := by decide

theorem test_witness_StepRunsTheDecodedInstruction :
    RunsInstr idle .nop ∧ (∃ t, exec .nop (idle.dropInput.prepare .nop) = .next t) ∧
    RunsInstr { idle with script := [.quiet, ⟨[], false, false, true⟩] } .nop ∧
    (waitingHere.run = .running ∧ waitingHere.input = ⟨[], false, true, false⟩ ∧ waitingHere.fetch = .ok .nop ∧
      (∃ t, exec .nop (waitingHere.dropInput.prepare .nop) = .next t) ∧ waitingHere.window.forced = [1]) ∧
    RunsInstr (running .series38000 0#8 [0x6C#8, 0xFF#8, 0x14#8]) (.jmpInd 0x14FF#16) ∧
    (∃ r, exec (.jmpInd 0x14FF#16)
      ((running .series38000 0#8 [0x6C#8, 0xFF#8, 0x14#8]).dropInput.prepare (.jmpInd 0x14FF#16)) =
      .refused r) ∧ idle.window.afterPlp = false ∧ idle.window.afterDecimal = false :=
  ⟨by unfold RunsInstr; decide, ⟨_, rfl⟩, by unfold RunsInstr; decide,
    ⟨by decide, by decide, by decide, ⟨_, rfl⟩, by decide⟩, by unfold RunsInstr; decide, ⟨_, rfl⟩, rfl, rfl⟩
theorem test_witness_StepKeepsMemoryCanonical : Memory.wf idle.mem = true ∧ ∃ t, step idle = .next t :=
  ⟨by decide, ⟨_, rfl⟩⟩
theorem test_witness_ResetEventRestartsTheMachine :
    ({ idle with script := [⟨[], false, false, true⟩] } : State).script = [⟨[], false, false, true⟩] ∧
    (controlBits { twoSources with hasSps := true, spsAddr := 0x3B#8, spsBit := 2#3 }).Nodup ∧
    (∀ l ∈ controlBits twoSources, l.addr ≠ 0x003D#16) := by decide
theorem test_witness_StepKeepsTheParameters : ∃ t, step idle = .next t := ⟨_, rfl⟩
theorem test_witness_OnlyListedInstructionsWriteARegister :
    after (running .series38000 0#8 [0xA9#8, 0x77#8]) (fun t => t.a) = some 0x77#8 ∧
    after (running .series38000 0#8 [0xA2#8, 0x77#8]) (fun t => t.x) = some 0x77#8 ∧
    after (running .series38000 0#8 [0xA0#8, 0x77#8]) (fun t => t.y) = some 0x77#8 ∧
    after (running .series38000 0#8 [0x48#8]) (fun t => t.sp) = some 0xFE#8 := by decide
theorem test_witness_OnlyStoringFormsChangeMemory :
    after (running .series38000 0#8 [0x85#8, 0x40#8]) (fun t => t.byteAt 0x0040#16) = some 0x02#8 ∧
    idle.byteAt 0x0040#16 = 0x00#8 := by decide
theorem test_witness_PcAdvancesByTheLength :
    Instr.nop.mnemonic ∉ [Mnemonic.jmp, .jsr, .rts, .rti, .brk] ∧ Instr.nop.offset? = none ∧
    (Instr.bcs 0x7F#8).offset? ≠ none ∧ (Instr.bcs 0x7F#8).mnemonic ≠ .bra ∧
    (Instr.bcs 0x7F#8).branchTaken idle = false := by decide
theorem test_witness_FlagsOutsideTheTableAreUnchanged :
    (∃ t, exec .nop idle = .next t) ∧ Instr.nop.mnemonic.flagsWritten.n = false := ⟨⟨_, rfl⟩, rfl⟩
theorem test_witness_TAndDMatterOnlyWhereListed :
    Instr.sed.mnemonic ∉ [Mnemonic.adc, .and, .cmp, .eor, .lda, .ora, .sbc, .php, .brk] ∧
    (∃ t, exec .sed idle = .next t) := ⟨by decide, ⟨_, rfl⟩⟩
theorem test_witness_BreakFlagIsSetOnlyInBrksCopy :
    PlainStack 3 idle ∧ PlainStack 1 idle ∧
    (∀ src ∈ twoSources.sources, AcknowledgeSparesTheFrame idle src ∧
      AcknowledgeSparesTheFrame { idle with cfg := { idle.cfg with irqAck := .leave } } src) ∧
    (∃ t, exec .brk idle = .next t) ∧ (∃ t, exec .php idle = .next t) :=
  ⟨test_witness_PlainStack.1, test_witness_PushAndPullMoveTheStackPointer.1,
    by unfold AcknowledgeSparesTheFrame; decide, ⟨_, rfl⟩, ⟨_, rfl⟩⟩
theorem test_witness_AcceptanceNeedsRequestEnableAndI :
    idle.window.fresh = [] ∧ idle.window.forced = [] ∧ (irqCpu 0x04#8 0x03#8 0x03#8 [0xEA#8]).ps.i = true := by decide
theorem test_witness_HighestPrioritySourceIsEntered :
    (irqCpu 0x00#8 0x02#8 0x03#8 [0xEA#8]).nextInterrupt.isSome = true ∧ idle.nextInterrupt = none ∧
    (irqCpu 0x00#8 0x02#8 0x03#8 [0xEA#8]).run = .running ∧ (irqCpu 0x00#8 0x02#8 0x03#8 [0xEA#8]).input = .quiet := by decide
theorem test_witness_InterruptEntrySavesPcAndPs :
    idle.cfg.irqAck = .clear ∧
    ({ idle with cfg := { idle.cfg with irqAck := .leave } } : State).cfg.irqAck = .leave := by decide
theorem test_witness_RtiUndoesExceptionEntry :
    PlainStack 3 idle ∧ PlainStack 3 (paged 0x00#8 0x3E#8) ∧
    AcknowledgeSparesTheFrame idle ⟨"INT1", 0xFFF8#16, ⟨0x003C#16, 0#3⟩, ⟨0x003E#16, 0#3⟩, false, false⟩ ∧
    AcknowledgeSparesTheFrame (paged 0x00#8 0x3E#8)
      ⟨"INT1", 0xFFF8#16, ⟨0x003B#16, 0#3⟩, ⟨0x003A#16, 0#3⟩, false, false⟩ :=
  ⟨test_witness_PlainStack.1, test_witness_PlainStack.2.2.1, by unfold AcknowledgeSparesTheFrame; decide,
    by unfold AcknowledgeSparesTheFrame; decide⟩
theorem test_witness_RtsUndoesJsr :
    (Instr.jsrSp 0xFF#8).mnemonic = .jsr ∧ PlainStack 2 idle ∧ PlainStack 2 (paged 0x00#8 0x3D#8) := by
  unfold PlainStack; decide
/-- A NOP and an INX in the PLP window of a part that needs the NOP, and a NOP on a part that does not. -/
theorem test_witness_PlpWindowLeavesThePulledFlags :
    RunsInstr { running .series7470 0xE5#8 [0xEA#8] with window := ⟨true, false, [], []⟩ } .nop ∧
    (∃ t, step { running .series7470 0xE5#8 [0xEA#8] with window := ⟨true, false, [], []⟩ } = .next t) ∧
    RunsInstr { running .series7470 0xE5#8 [0xE8#8] with window := ⟨true, false, [], []⟩ } .inx ∧
    (∃ t, step { running .series7470 0xE5#8 [0xE8#8] with window := ⟨true, false, [], []⟩ } = .next t) ∧
    RunsInstr idle .nop ∧ idle.cfg.part.plpNeedsNop = false ∧ idle.window.afterDecimal = false :=
  ⟨by unfold RunsInstr; decide, ⟨_, rfl⟩, by unfold RunsInstr; decide, ⟨_, rfl⟩, by unfold RunsInstr; decide, rfl, rfl⟩
/-- SEC and SED in the decimal window. -/
theorem test_witness_DecimalWindowAffectsOnlyCAndD :
    RunsInstr { running .series38000 0x08#8 [0x38#8] with window := ⟨false, true, [], []⟩ } .sec ∧
    (∃ t, step { running .series38000 0x08#8 [0x38#8] with window := ⟨false, true, [], []⟩ } = .next t) ∧
    RunsInstr { running .series38000 0x08#8 [0xF8#8] with window := ⟨false, true, [], []⟩ } .sed ∧
    (∃ t, step { running .series38000 0x08#8 [0xF8#8] with window := ⟨false, true, [], []⟩ } = .next t) :=
  ⟨by unfold RunsInstr; decide, ⟨_, rfl⟩, by unfold RunsInstr; decide, ⟨_, rfl⟩⟩
/-- An instruction that changes a request bit, and bytes of all kinds whose bits are settled. -/
theorem test_witness_WrittenRequestBitsSettleAfterOneInstruction :
    RunsInstr oneByteSource (.staZp 0x3E#8) ∧ (∃ t, step oneByteSource = .next t) ∧
    after oneByteSource (fun t => t.window.fresh) = some [0] ∧
    (idle.freshMask 0x0000#16).getLsbD 7 = false ∧ mapAt idle.cfg 0x0000#16 = .ram ∧
    (∃ w, mapAt mapped.cfg 0xFFFF#16 = .rom w) ∧
    locate { mapped.cfg with sources := twoSources.sources } 0x003C#16 = 0x003C#16 ∧
    (∃ l ∈ controlBits { mapped.cfg with sources := twoSources.sources }, l.addr = 0x003C#16 ∧ l.bit.toNat = 1) :=
  ⟨by unfold RunsInstr; decide, ⟨_, rfl⟩, by decide, by decide, by decide, ⟨_, rfl⟩, by decide, by decide⟩
/-- The source is forced both where the next boundary is quiet and where recognition is postponed. -/
theorem test_witness_ClearingWithEnablingStillInterrupts :
    RunsInstr oneByteSource (.staZp 0x3E#8) ∧
    after oneByteSource (fun t => (t.latch ⟨0x003E#16, 0#3⟩, t.latch ⟨0x003E#16, 1#3⟩, t.ps.i)) =
      some (false, true, false) ∧
    after { oneByteSource with script := [.quiet, ⟨[], false, true, false⟩] }
      (fun t => (t.input.postpone, t.input.reset, after t (fun u => u.window.forced))) =
      some (true, false, some [0]) ∧
    oneByteSource.latch ⟨0x003E#16, 0#3⟩ = true ∧ oneByteSource.latch ⟨0x003E#16, 1#3⟩ = false ∧
    oneByteSource.cfg.sources[0]? = some ⟨"INT1", 0xFFF8#16, ⟨0x003E#16, 0#3⟩, ⟨0x003E#16, 1#3⟩, false, false⟩ :=
  ⟨by unfold RunsInstr; decide, by decide, by decide, by decide, by decide, by decide⟩
/-- I = 0, I = 1 and a postponed boundary, a request for source 1, which is enabled, among others. -/
theorem test_witness_DeviceRequestIsTakenAtTheBoundary :
    (∃ s, s = ({ irqCpu 0x00#8 0x00#8 0x02#8 [0xEA#8] with script := [⟨[0, 1], false, false, false⟩, .quiet] } : State) ∧
      s.run = .running ∧ s.input.reset = false ∧ 1 ∈ s.input.requests ∧ s.latch ⟨0x003E#16, 1#3⟩ = true ∧
      s.ps.i = false ∧ s.input.postpone = false ∧ s.cfg.sources[1]?.isSome = true ∧
      after s (fun t => t.pc) = some 0x5000#16) ∧
    (∃ s, s = ({ irqCpu 0x04#8 0x00#8 0x02#8 [0xEA#8] with script := [⟨[1], false, false, false⟩] } : State) ∧
      s.ps.i = true ∧ s.atBoundary.fetch = .ok .nop ∧
      after s (fun t => (t.pc, t.byteAt 0x003C#16)) = some (0x1235#16, 0x02#8)) ∧
    (∃ s, s = ({ irqCpu 0x00#8 0x00#8 0x02#8 [0xEA#8] with script := [⟨[1], false, true, false⟩] } : State) ∧
      s.input.postpone = true ∧ s.atBoundary.fetch = .ok .nop ∧
      after s (fun t => (t.pc, t.byteAt 0x003C#16)) = some (0x1235#16, 0x02#8)) :=
  ⟨⟨_, rfl, by decide, by decide, by decide, by decide, by decide, by decide, by decide, by decide⟩,
    ⟨_, rfl, by decide, by decide, by decide⟩, ⟨_, rfl, by decide, by decide, by decide⟩⟩

end Sys2Proof.Tests
end

section
/-! The encoding family (spec/30_encoding.md): the device-dependent opcodes (R100), the fields of the bit instructions'
opcodes (R96), and the two statements that rest on them. -/

namespace Sys2Proof

/-! What each function of the decoder answers. -/

theorem decode_of_lowBits_eq {op : Byte} (h : op.extractLsb' 0 2 = 3#2) (p : Part) (op1 op2 : Byte) :
    decode p op op1 op2 = .ok (decodeBit op op1 op2) := if_pos h

theorem decode_of_lowBits_ne {op : Byte} (h : op.extractLsb' 0 2 ≠ 3#2) (p : Part) (op1 op2 : Byte) :
    decode p op op1 op2 = decodeWhole p op op1 op2 := if_neg h

theorem lowBits_eq_three_iff (op : Byte) : op.extractLsb' 0 2 = 3#2 ↔ op.toNat % 4 = 3 := by
  simp [← BitVec.toNat_inj]

theorem decode_42 (p : Part) (op1 op2 : Byte) :
    decode p 0x42#8 op1 op2 = if p.hasStp then .ok .stp else .error (.unsupported 0x42#8) := rfl

theorem decode_62 (p : Part) (op1 op2 : Byte) :
    decode p 0x62#8 op1 op2 = if p.hasMulDiv then .ok (.mulZpX op1) else .error (.unsupported 0x62#8) := rfl

theorem decode_C2 (p : Part) (op1 op2 : Byte) :
    decode p 0xC2#8 op1 op2 =
      if p.hasWit then .ok .wit else if p.hasFstSlw then .ok .slw else .error (.unsupported 0xC2#8) := rfl

theorem decode_E2 (p : Part) (op1 op2 : Byte) :
    decode p 0xE2#8 op1 op2 =
      if p.hasMulDiv then .ok (.divZpX op1) else if p.hasFstSlw then .ok .fst
      else .error (.unsupported 0xE2#8) := rfl

/-! How the columns of the family-member table (R2) exclude each other. -/

theorem Part.hasWit_eq_not_hasFstSlw (p : Part) : p.hasWit = !p.hasFstSlw := by cases p <;> rfl

theorem Part.not_hasMulDiv_and_hasFstSlw (p : Part) : (p.hasMulDiv && p.hasFstSlw) = false := by cases p <;> rfl

theorem Part.hasWit_of_hasFstSlw {p : Part} (h : p.hasFstSlw = true) : p.hasWit = false := by
  rw [p.hasWit_eq_not_hasFstSlw, h, Bool.not_true]

theorem Part.hasMulDiv_of_hasFstSlw {p : Part} (h : p.hasFstSlw = true) : p.hasMulDiv = false := by
  simpa [h] using p.not_hasMulDiv_and_hasFstSlw

/-- Settles O4: each opcode's row of the decoder, read with the columns of R2. -/
theorem deviceDependentOpcodesFollowThePart : Obligations.DeviceDependentOpcodesFollowThePart := by
  intro p b1 b2
  refine ⟨decode_42 p b1 b2, decode_62 p b1 b2, fun hWit => ?c2Wit, fun hFst => ?c2Slw, fun hMul => ?e2Div,
    fun hFst => ?e2Fst, fun hMul hFst => ?e2None, p.hasWit_eq_not_hasFstSlw, p.not_hasMulDiv_and_hasFstSlw,
    rfl, rfl, rfl, rfl, rfl, rfl⟩
  case c2Wit => simp [decode_C2, hWit]
  case c2Slw => simp [decode_C2, hFst, Part.hasWit_of_hasFstSlw hFst]
  case e2Div => simp [decode_E2, hMul]
  case e2Fst => simp [decode_E2, hFst, Part.hasMulDiv_of_hasFstSlw hFst]
  case e2None => simp [decode_E2, hMul, hFst]

/-! The fields of a bit instruction's opcode (R96). -/

theorem bitOpcode_eq_ofNat (b : BitNo) (low : BitVec 5) :
    bitOpcode b low = BitVec.ofNat 8 (low.toNat + 0x20 * b.toNat) := by
  have hsum : (bitOpcode b low).toNat = low.toNat + 0x20 * b.toNat := by
    rw [bitOpcode, BitVec.toNat_append, ← Nat.shiftLeft_add_eq_or_of_lt low.isLt, Nat.shiftLeft_eq]
    omega
  rw [← hsum, BitVec.ofNat_toNat, BitVec.setWidth_eq]

theorem bitField_toNat (op : Byte) : (op.extractLsb' 5 3 : BitNo).toNat = op.toNat / 32 := by
  rw [BitVec.extractLsb'_toNat, Nat.shiftRight_eq_div_pow]
  omega

/-- The byte that a bit instruction works on, by its opcode's bit 2: the zero page where it is 1. -/
def bitPlace (onMemory : Bool) (z : Byte) : Operand := if onMemory then .mem (.zp z) else .acc

theorem bitPlace_eq_acc_iff (onMemory : Bool) (z : Byte) : bitPlace onMemory z = .acc ↔ onMemory = false := by
  cases onMemory <;> simp [bitPlace]

theorem bitPlace_eq_zp_iff (onMemory : Bool) (z : Byte) :
    bitPlace onMemory z = .mem (.zp z) ↔ onMemory = true := by
  cases onMemory <;> simp [bitPlace]

theorem decodeBit_bitOperand? (op op1 op2 : Byte) :
    (decodeBit op op1 op2).bitOperand? = some (op.extractLsb' 5 3, bitPlace (op.getLsbD 2) op1) := by
  unfold decodeBit
  split <;> simp only [*] <;> rfl

/-- The mnemonic of a bit instruction by its opcode's bit 4 (clear sense) and bit 3 (modify). -/
def bitMnemonic (clear modify : Bool) : Mnemonic :=
  match clear, modify with
  | false, false => .bbs
  | true, false => .bbc
  | false, true => .seb
  | true, true => .clb

theorem decodeBit_mnemonic (op op1 op2 : Byte) :
    (decodeBit op op1 op2).mnemonic = bitMnemonic (op.getLsbD 4) (op.getLsbD 3) := by
  unfold decodeBit
  split <;> simp only [*] <;> rfl

theorem bitMnemonic_inj {c m c' m' : Bool} : bitMnemonic c m = bitMnemonic c' m' ↔ c = c' ∧ m = m' := by
  revert c m c' m'; decide

/-- Outside R96's 64 opcodes no cell of the matrix R98 holds a bit instruction. -/
theorem bitOperand?_of_decodeWhole {p : Part} {op op1 op2 : Byte} {i : Instr}
    (h : decodeWhole p op op1 op2 = .ok i) : i.bitOperand? = none := by
  revert h
  fun_cases decodeWhole p op op1 op2 <;> rintro ⟨⟩ <;> rfl

/-- Settles O6: the encoder puts the bit number above the base, the decoder reads it back from there, and the matrix
of the other opcodes is free of bit instructions. -/
theorem bitInstructionOpcodesHoldTheBitNumber : Obligations.BitInstructionOpcodesHoldTheBitNumber := by
  refine ⟨fun b z r => ?bases, fun p op b1 b2 hlow => ?fields, fun p op b1 b2 i hlow hdec => ?others⟩
  case bases => simp [encode, bitOpcode_eq_ofNat]
  case fields =>
    have hmn := decodeBit_mnemonic op b1 b2
    refine ⟨decodeBit op b1 b2, op.extractLsb' 5 3, bitPlace (op.getLsbD 2) b1,
      decode_of_lowBits_eq ((lowBits_eq_three_iff op).mpr hlow) p b1 b2, decodeBit_bitOperand? op b1 b2,
      bitField_toNat op, ?_, ?_, ?_, ?_, bitPlace_eq_acc_iff _ b1, bitPlace_eq_zp_iff _ b1⟩
    · exact hmn ▸ bitMnemonic_inj (c' := false) (m' := false)
    · exact hmn ▸ bitMnemonic_inj (c' := true) (m' := false)
    · exact hmn ▸ bitMnemonic_inj (c' := false) (m' := true)
    · exact hmn ▸ bitMnemonic_inj (c' := true) (m' := true)
  case others =>
    rw [decode_of_lowBits_ne (mt (lowBits_eq_three_iff op).mp hlow)] at hdec
    exact bitOperand?_of_decodeWhole hdec

end Sys2Proof
end

section
/-! The transfer family (spec/41_load_store_transfer.md): TAX, TAY, TSX, TXA, TXS and TYA (R157 to R162). -/

namespace Sys2Proof.Machine

/-- How a one-byte instruction ends that sets N and Z from `v`, in the words of the statements: `SetNZ` (R9) gives
`withNZ`, and PC goes one byte on (R29). -/
theorem State.setPs_setNZ_advance_one (s : State) (p : PS) (v : Byte) :
    (s.setPs (p.setNZ v)).advance 1 = (s.setPs (withNZ p v)).setPc (s.pc + 1#16) := by
  rw [PS.setNZ_eq_withNZ, State.advance, State.setPs_pc]

/-- Settles O13: the destination is written before PS, so each transfer but TXS ends in `setPs_setNZ_advance_one` from
the state with the destination written; TXS only writes S and advances. -/
theorem transfersCopyARegister : Obligations.TransfersCopyARegister := by
  refine ⟨rfl, rfl, rfl, rfl, rfl, rfl, fun s => ⟨?tax, ?tay, ?tsx, ?txa, ?txs, ?tya⟩⟩
  case tax => exact congrArg _ (State.setPs_setNZ_advance_one (s.setX s.a) s.ps s.a)
  case tay => exact congrArg _ (State.setPs_setNZ_advance_one (s.setY s.a) s.ps s.a)
  case tsx => exact congrArg _ (State.setPs_setNZ_advance_one (s.setX s.sp) s.ps s.sp)
  case txa => exact congrArg _ (State.setPs_setNZ_advance_one (s.setA s.x) s.ps s.x)
  case txs => rfl
  case tya => exact congrArg _ (State.setPs_setNZ_advance_one (s.setA s.y) s.ps s.y)

end Sys2Proof.Machine
end

section
/-! The encoding family, continued: the round trips between instructions and bytes (R90 to R102), and the opcodes that
are no instruction (R100, R101). -/

namespace Sys2Proof

open Machine

/-! Bit instructions: the opcode is the bit number above five constant bits. -/

theorem bitOpcode_extract_bit (b : BitNo) (low : BitVec 5) : (bitOpcode b low).extractLsb' 5 3 = b := by
  rw [bitOpcode]
  exact BitVec.extractLsb'_append_eq_left

theorem getLsbD_bitOpcode (b : BitNo) (low : BitVec 5) (j : Nat) (h : j < 5) :
    (bitOpcode b low).getLsbD j = low.getLsbD j := by
  rw [bitOpcode, BitVec.getLsbD_append, if_pos h]

theorem bitOpcode_lowBits (b : BitNo) (low : BitVec 5) (h : low.extractLsb' 0 2 = 3#2) :
    (bitOpcode b low).extractLsb' 0 2 = 3#2 := by
  rw [← h]
  apply BitVec.eq_of_getLsbD_eq
  intro j hj
  simp [BitVec.getLsbD_extractLsb', -BitVec.getLsbD_eq_getElem, hj, getLsbD_bitOpcode b low j (by omega)]

/-- A bit instruction is found again by its bit number and by three of the constant bits. -/
theorem decodeBit_bitOpcode (b : BitNo) (low : BitVec 5) (op1 op2 : Byte) :
    decodeBit (bitOpcode b low) op1 op2 =
      match low.getLsbD 4, low.getLsbD 3, low.getLsbD 2 with
      | false, false, false => .bbsA b op1
      | true,  false, false => .bbcA b op1
      | false, false, true  => .bbsZp b op1 op2
      | true,  false, true  => .bbcZp b op1 op2
      | false, true,  false => .sebA b
      | true,  true,  false => .clbA b
      | false, true,  true  => .sebZp b op1
      | true,  true,  true  => .clbZp b op1 := by
  rw [decodeBit, bitOpcode_extract_bit, getLsbD_bitOpcode _ _ _ (by omega), getLsbD_bitOpcode _ _ _ (by omega),
    getLsbD_bitOpcode _ _ _ (by omega)] <;> rfl

theorem decode_bitOpcode (p : Part) (b : BitNo) {low : BitVec 5} (op1 op2 : Byte) (h : low.extractLsb' 0 2 = 3#2) :
    decode p (bitOpcode b low) op1 op2 = .ok (decodeBit (bitOpcode b low) op1 op2) :=
  decode_of_lowBits_eq (bitOpcode_lowBits b low h) p op1 op2

/-- Settles O1: a bit instruction by its opcode's fields, a device-dependent one by the parameter that it requires, and
every other by its row of the matrix, whose absolute operand is put together again from its two bytes. -/
theorem decodeOfEncodeIsTheInstruction : Obligations.DecodeOfEncodeIsTheInstruction := by
  intro p i x y z h
  cases i <;> simp only [encode, List.getD_cons_zero, List.getD_cons_succ, List.getD_nil]
  case bbsA | bbcA | bbsZp | bbcZp | sebA | clbA | sebZp | clbZp =>
    exact (decode_bitOpcode p _ _ _ rfl).trans (congrArg _ (decodeBit_bitOpcode _ _ _ _))
  case stp => exact (decode_42 p _ _).trans (if_pos h)
  case mulZpX => exact (decode_62 p _ _).trans (if_pos h)
  case wit => exact (decode_C2 p _ _).trans (if_pos h)
  case divZpX => exact (decode_E2 p _ _).trans (if_pos h)
  case slw =>
    have hSlw : p.hasFstSlw = true := h
    simp [decode_C2, Part.hasWit_of_hasFstSlw hSlw, hSlw]
  case fst =>
    have hFst : p.hasFstSlw = true := h
    simp [decode_E2, Part.hasMulDiv_of_hasFstSlw hFst, hFst]
  all_goals first | rfl | exact congrArg Except.ok (congrArg _ (addrOf_hiByte_loByte _))

/-! What the decoder answers goes back to the bytes that it was read from. -/

theorem eq_bitOpcode (op : Byte) : op = bitOpcode (op.extractLsb' 5 3) (op.extractLsb' 0 5) := by
  have hlow : (op.extractLsb' 0 5).toNat = op.toNat % 32 := by simp
  rw [bitOpcode_eq_ofNat, bitField_toNat, hlow, Nat.mod_add_div, BitVec.ofNat_toNat, BitVec.setWidth_eq]

/-- The constant bits of the eight kinds of bit instruction (R96). -/
theorem bitInstruction_low (low : BitVec 5) (h : low.extractLsb' 0 2 = 3#2) :
    low ∈ [0x03#5, 0x13#5, 0x07#5, 0x17#5, 0x0B#5, 0x1B#5, 0x0F#5, 0x1F#5] := by
  revert low; decide

theorem encode_decodeBit (op op1 op2 : Byte) (h : op.extractLsb' 0 2 = 3#2) :
    encode (decodeBit op op1 op2) = [op, op1, op2].take (decodeBit op op1 op2).length := by
  have hlow := bitInstruction_low (op.extractLsb' 0 5) (by
    rw [← h]; apply BitVec.eq_of_toNat_eq; simp)
  rw [eq_bitOpcode op]
  generalize op.extractLsb' 5 3 = b, op.extractLsb' 0 5 = low at hlow
  simp only [List.mem_cons, List.not_mem_nil, or_false] at hlow
  rw [decodeBit_bitOpcode]
  rcases hlow with rfl | rfl | rfl | rfl | rfl | rfl | rfl | rfl <;> rfl

theorem wellFormed_decodeBit (p : Part) (op op1 op2 : Byte) : WellFormed p (decodeBit op op1 op2) := by
  unfold decodeBit
  split <;> rfl

theorem encode_of_decodeWhole {p : Part} {op op1 op2 : Byte} {i : Instr} (h : decodeWhole p op op1 op2 = .ok i) :
    WellFormed p i ∧ encode i = [op, op1, op2].take i.length := by
  have eq_ofNat : ∀ n, op.toNat = n → op = BitVec.ofNat 8 n := fun n hn => by
    rw [← hn, BitVec.ofNat_toNat, BitVec.setWidth_eq]
  revert h
  fun_cases decodeWhole p op op1 op2 <;> rintro ⟨⟩
  all_goals
    obtain rfl := eq_ofNat _ ‹op.toNat = _›
    refine ⟨by first | rfl | assumption, ?_⟩
  all_goals first | rfl | exact congrArg₂ (fun lo hi => [_, lo, hi]) (loByte_addrOf op2 op1) (hiByte_addrOf op2 op1)

/-- Settles O2: an opcode with low bits 11 is put together again from its bit number and its constant bits, and every
other is its row of the matrix. -/
theorem encodeOfDecodeIsTheBytes : Obligations.EncodeOfDecodeIsTheBytes := by
  intro p b0 b1 b2 i h
  by_cases hlow : b0.extractLsb' 0 2 = 3#2
  · rw [decode_of_lowBits_eq hlow] at h
    cases h
    exact ⟨wellFormed_decodeBit p b0 b1 b2, encode_decodeBit b0 b1 b2 hlow⟩
  · rw [decode_of_lowBits_ne hlow] at h
    exact encode_of_decodeWhole h

/-! The opcodes that are no instruction of a part. -/

/-- The 25 opcodes of R101. -/
def unusedOpcodes : List Byte :=
  [0x04#8, 0x0C#8, 0x14#8, 0x1C#8, 0x34#8, 0x52#8, 0x54#8, 0x5A#8, 0x5C#8, 0x72#8, 0x74#8, 0x7A#8, 0x7C#8,
    0x89#8, 0x92#8, 0x9C#8, 0x9E#8, 0xD2#8, 0xD4#8, 0xDA#8, 0xDC#8, 0xF2#8, 0xF4#8, 0xFA#8, 0xFC#8]

/-- The part has none of the instructions that share the opcode (R100). -/
abbrev Part.lacksOpcode (p : Part) (op : Byte) : Prop :=
  (op = 0x42#8 ∧ p.hasStp = false) ∨ (op = 0x62#8 ∧ p.hasMulDiv = false) ∨
    (op = 0xC2#8 ∧ p.hasWit = false ∧ p.hasFstSlw = false) ∨
    (op = 0xE2#8 ∧ p.hasMulDiv = false ∧ p.hasFstSlw = false)

/-- Why the decoder answers no instruction, where it answers none. -/
def rejection : Except Reject Instr → Option Reject
  | .error r => some r
  | .ok _ => none

theorem eq_error_iff_rejection (d : Except Reject Instr) (r : Reject) : d = .error r ↔ rejection d = some r := by
  cases d <;> simp [rejection]

/-- The decoder's whole matrix, one opcode at a time, on each part: an answer that is no instruction does not depend on
the operand bytes. -/
theorem rejection_decode (p : Part) (op1 op2 : Byte) : ∀ op : Byte, rejection (decode p op op1 op2) =
    if op ∈ unusedOpcodes then some (.unused op) else if p.lacksOpcode op then some (.unsupported op) else none := by
  cases p <;> exact of_decide_eq_true rfl

theorem decode_eq_unused_iff (p : Part) (op op1 op2 : Byte) :
    decode p op op1 op2 = .error (.unused op) ↔ op ∈ unusedOpcodes := by
  rw [eq_error_iff_rejection, rejection_decode]
  split
  · simpa
  · split <;> simpa

/-- An unused opcode belongs to no instruction that a part could lack. -/
theorem Part.not_lacksOpcode_of_unused (p : Part) {op : Byte} (h : op ∈ unusedOpcodes) : ¬ p.lacksOpcode op := by
  rintro (⟨rfl, -⟩ | ⟨rfl, -⟩ | ⟨rfl, -⟩ | ⟨rfl, -⟩) <;> revert h <;> decide

theorem decode_eq_unsupported_iff (p : Part) (op op1 op2 : Byte) :
    decode p op op1 op2 = .error (.unsupported op) ↔ p.lacksOpcode op := by
  rw [eq_error_iff_rejection, rejection_decode]
  split
  case isTrue h => simpa using p.not_lacksOpcode_of_unused h
  case isFalse =>
    split
    case isTrue h => exact ⟨fun _ => h, fun _ => rfl⟩
    case isFalse h => exact ⟨nofun, fun h' => absurd h' h⟩

/-- A rejection names the opcode. -/
theorem eq_of_decode_eq_error {p : Part} {op op1 op2 : Byte} {r : Reject} (h : decode p op op1 op2 = .error r) :
    r = .unused op ∨ r = .unsupported op := by
  rw [eq_error_iff_rejection, rejection_decode] at h
  split at h
  · exact .inl (Option.some.inj h).symm
  · split at h
    · exact .inr (Option.some.inj h).symm
    · cases h

/-- Where the fetch finds no instruction, the step of a quiet boundary is that fault (R101, D17). -/
theorem step_of_fetch_error {s : State} {r : Reject} (hrun : s.run = .running) (hquiet : s.input = .quiet)
    (hnone : s.nextInterrupt = none) (hfetch : s.fetch = .error r) : step s = .fault (faultOf r) := by
  have hfetch' : s.dropInput.fetch = .error r := hfetch
  rw [step_quiet hrun hquiet hnone, State.runInstruction, hfetch']

/-- Settles O3: the matrix is evaluated once, in `rejection_decode`; a step at a rejected opcode is the fault of it. -/
theorem opcodesWithoutInstructionFault : Obligations.OpcodesWithoutInstructionFault := by
  refine ⟨decode_eq_unused_iff, decode_eq_unsupported_iff, fun s r hrun hquiet hnone hfetch => ?_⟩
  have hstep := step_of_fetch_error hrun hquiet hnone hfetch
  rcases eq_of_decode_eq_error hfetch with rfl | rfl
  · exact .inl ⟨rfl, hstep⟩
  · exact .inr ⟨rfl, hstep⟩

end Sys2Proof
end

section
/-! The memory family (spec/20_memory.md, spec/10_state.md section 1, spec/40_addressing_modes.md): the byte accesses,
the stack, the effective addresses, and the canonical form of memory. -/

namespace Sys2Proof.Machine

/-! The byte accesses (R68, R69). -/

theorem State.write_eq_self_of_ignored (s : State) (a : Addr) (v : Byte)
    (h : writeRuleOf (kindAt s.cfg a) = .ignore) : s.write a v = s := by
  simp [State.write, State.writable, h]

theorem State.write_steady (s : State) (a : Addr) (v : Byte) : Steady s (s.write a v) := by
  simp [Steady]

theorem locate_mirror {c : Config} {a base mask : Addr} (h : mapAt c a = .unmapped (.mirror base mask)) :
    locate c a = base + (a &&& mask) := by
  simp [locate, h]

/-- A read depends on the place that the address reaches, not on the address. -/
theorem State.read_congr_of_locate {s : State} {a b : Addr} (h : locate s.cfg a = locate s.cfg b) (acc : Access) :
    s.read acc a = s.read acc b := by
  simp only [State.read, State.sourceByte, kindAt, h]

/-- A write to RAM, through whatever address, depends on the place that the address reaches only. -/
theorem State.write_eq_of_ram {s : State} {a : Addr} (v : Byte) (h : kindAt s.cfg a = .ram) :
    s.write a v = s.setMem (s.mem.set (locate s.cfg a).toNat v) := by
  rw [State.write, s.writtenByte_ram _ _ _ h, if_pos (by rw [State.writable, h]; rfl)]

/-- Settles O7: each clause is a law of `write`, of `locate` or of both. -/
theorem memoryReadsWhatWasWritten : Obligations.MemoryReadsWhatWasWritten := by
  intro s a v
  refine ⟨s.write_storesByte a v, by simp [SameRegs], by simp, by simp, s.write_steady a v,
    fun hram => ⟨fun b => ?byte, fun hfresh acc => ?read⟩, s.write_eq_self_of_ignored a v, fun hrule => ?stored,
    fun base mask hmirror hram => ?mirrored⟩
  case byte =>
    rw [State.byteAt_write, storedByte, locate_ram _ _ hram, s.writtenByte_ram _ _ _ (kindAt_ram _ _ hram)]
  case read =>
    rw [State.read_ram _ acc a (by simpa using hram) (by simpa using hfresh), State.byteAt_write, storedByte,
      locate_ram _ _ hram, s.writtenByte_ram _ _ _ (kindAt_ram _ _ hram), if_pos rfl]
  case stored =>
    rw [State.byteAt_write, storedByte, if_pos rfl, State.writtenByte, hrule, writeResult]
  case mirrored =>
    have hplace : locate s.cfg a = locate s.cfg (base + (a &&& mask)) := by
      rw [locate_mirror hmirror, locate_ram _ _ hram]
    have hkind : kindAt s.cfg a = .ram := by rw [kindAt, hplace, ← kindAt, kindAt_ram _ _ hram]
    refine ⟨?_, State.read_congr_of_locate hplace⟩
    rw [State.write_eq_of_ram v hkind, State.write_eq_of_ram v (kindAt_ram _ _ hram), hplace]

/-! The stack (R24 to R26). -/

theorem State.stackPageHi_toNat (s : State) : s.stackPageHi.toNat =
    if s.cfg.hasSps = true then (if s.latch (spsLoc s.cfg) = true then 1 else 0)
    else s.cfg.stackPageFixedHi.toNat := by
  unfold State.stackPageHi
  split
  · split <;> rfl
  · rfl

theorem State.push_steady (s : State) (v : Byte) : Steady s (s.push v) := by
  simp [Steady]

theorem State.push_storesByte (s : State) (v : Byte) : StoresByte s (s.push v) s.stackAddr v :=
  fun b => s.byteAt_push v b

theorem byte_sub_one_toNat (v : Byte) : (v - 1#8).toNat = (v.toNat + 255) % 256 := by
  rw [BitVec.toNat_sub]
  simp [Nat.add_comm]

/-- A pull right after a push gives the byte back. -/
theorem State.pullByte_push {s : State} (h : PlainStack 1 s) (v : Byte) (acc : Access) :
    (s.push v).pullByte acc = v := by
  have haddr : addrOf (s.push v).stackPageHi ((s.push v).sp + 1#8) = s.stackSlot 0 := by
    rw [State.stackPageHi_push_plain h, State.push_sp, BitVec.sub_add_cancel, State.stackSlot_zero, State.stackAddr]
  rw [State.pullByte_eq, haddr, State.read_plain h (by simp) (by simp) 0 (by omega), State.byteAt_push_plain h,
    State.stackSlot_zero, if_pos rfl]

/-- Settles O8: a push is a write at the stack address, a pull a read one place above; on a plain stack the two places
are one. -/
theorem pushAndPullMoveTheStackPointer : Obligations.PushAndPullMoveTheStackPointer := by
  refine ⟨fun s v => ⟨?address, s.push_storesByte v, byte_sub_one_toNat s.sp, by simp, by simp, by simp, by simp,
    by simp, s.push_steady v⟩, fun s acc => ⟨by simp, s.pullByte_eq acc, rfl⟩,
    fun s acc v hplain => ⟨State.pullByte_push hplain v acc, by simp⟩⟩
  case address => rw [State.stackAddr, addrOf_toNat, State.stackPageHi_toNat]

/-! The effective addresses (R121 to R139). -/

/-- An address in the zero page is given by its number. -/
theorem eq_zpAddr {a : Addr} {z : Byte} (h : a.toNat = z.toNat) : a = zpAddr z :=
  BitVec.eq_of_toNat_eq (by rw [h, zpAddr_toNat])

/-- A zero-page pointer is two bytes, the low one first, the high one at the next place of the zero page. -/
theorem State.zpPointer_toNat (s : State) (z : Byte) {lo hi : Addr} (hlo : lo.toNat = z.toNat)
    (hhi : hi.toNat = (z.toNat + 1) % 256) :
    (s.zpPointer z).toNat = 256 * (s.read .pointerHi hi).toNat + (s.read .pointerLo lo).toNat := by
  have hhi' : hi = zpAddr (z + 1#8) := eq_zpAddr (by simpa using hhi)
  rw [eq_zpAddr hlo, hhi', State.zpPointer, addrOf_toNat]

theorem zext16_toNat (v : Byte) : (zext16 v).toNat = v.toNat := by
  rw [zext16, BitVec.toNat_setWidth]
  omega

/-- Settles O9: sums of bytes wrap in the byte, sums of addresses in the address, and both bytes of a zero-page pointer
are in the zero page. -/
theorem effectiveAddressesWrapAsStated : Obligations.EffectiveAddressesWrapAsStated := by
  intro s z a
  have hsum : (z + s.x).toNat = (z.toNat + s.x.toNat) % 256 := BitVec.toNat_add z s.x
  refine ⟨zpAddr_toNat z, ?zpX, ?zpY, rfl, ?absX, ?absY, fun lo hi hlo hhi => ?indX, fun lo hi hlo hhi => ?indY⟩
  case zpX => rw [MemOperand.ea, zpAddr_toNat, hsum]
  case zpY => rw [MemOperand.ea, zpAddr_toNat, BitVec.toNat_add]
  case absX => rw [MemOperand.ea, BitVec.toNat_add, zext16_toNat]
  case absY => rw [MemOperand.ea, BitVec.toNat_add, zext16_toNat]
  case indX => exact s.zpPointer_toNat (z + s.x) (hlo.trans hsum.symm) (by rw [hhi, hsum]; omega)
  case indY => rw [MemOperand.ea, BitVec.toNat_add, zext16_toNat, s.zpPointer_toNat z hlo hhi]

/-! The canonical form of memory. -/

/-- No instruction loses the canonical form: each writes memory through the shared operations only, or not at all. -/
theorem exec_wf {i : Instr} {s t : State} (h : exec i s = .next t) (hs : Memory.wf s.mem = true) :
    Memory.wf t.mem = true := by
  cases i
  case jmpInd a =>
    simp only [exec, execJmpInd, jumpIndirect] at h
    split at h
    · split at h <;> cases h <;> exact hs
    · cases h; exact hs
  all_goals
    cases h
    simp [hs, State.aluOp_wf, State.readModifyWrite_wf, State.loadA_wf, State.write_wf, State.push_wf, State.call_wf,
      State.multiply_wf, State.divide_wf, State.enterBrk_wf, storeByte]

/-- Settles O40: by what a step can do, each of its four kinds keeps the form. -/
theorem stepKeepsMemoryCanonical : Obligations.StepKeepsMemoryCanonical := by
  intro s t hs hstep
  have hboundary : Memory.wf s.atBoundary.mem = true := State.applyInput_wf s.dropInput s.input hs
  rcases step_cases hstep with ⟨-, rfl⟩ | ⟨-, -, rfl⟩ | ⟨-, -, -, k, src, -, rfl⟩ | ⟨-, -, -, i, u, -, hexec, rfl⟩
  case inl => exact State.resetEvent_wf s.dropInput hs
  case inr.inl => exact hboundary
  case inr.inr.inl => exact State.enterInterrupt_wf (s.atBoundary.setRun .running) src hboundary
  case inr.inr.inr =>
    have hu : Memory.wf u.mem = true := exec_wf hexec (by simpa using hboundary)
    exact hu

end Sys2Proof.Machine
end

section
/-! The arithmetic and logic of one byte (R180 to R194, R220 to R226), in the words of the statements: naturals, signed
integers and single bits. -/

namespace Sys2Proof.Machine

/-! A byte read as a number and as bits. -/

theorem getLsbD_seven (v : Byte) : v.getLsbD 7 = decide (128 ≤ v.toNat) := by
  rw [← BitVec.msb_eq_getLsbD_last, BitVec.msb_eq_decide]

theorem byte_toInt (v : Byte) : v.toInt = if v.toNat < 128 then (v.toNat : Int) else v.toNat - 256 := by
  rw [BitVec.toInt_eq_toNat_cond]
  have : v.toNat < 256 := v.isLt
  split <;> split <;> omega

theorem ofBool_toNat_le (b : Bool) : b.toNat ≤ 1 := by cases b <;> decide

/-! Binary addition and subtraction (R180, R181). -/

/-- The 9-bit sum of R180 holds the sum with carry. -/
theorem nineBitSum_toNat (a m : Byte) (c : Bool) :
    (a.setWidth 9 + m.setWidth 9 + (BitVec.ofBool c).setWidth 9 : BitVec 9).toNat = a.toNat + m.toNat + c.toNat := by
  have := a.isLt
  have := m.isLt
  have := ofBool_toNat_le c
  simp only [BitVec.toNat_add, BitVec.toNat_setWidth, BitVec.toNat_ofBool]
  omega

theorem addBinary_eq (a m : Byte) (p : PS) : addBinary a m p =
    (BitVec.ofNat 8 (a.toNat + m.toNat + p.c.toNat),
      { withNZ p (BitVec.ofNat 8 (a.toNat + m.toNat + p.c.toNat)) with
        c := decide (256 ≤ a.toNat + m.toNat + p.c.toNat)
        v := decide (a.toInt + m.toInt + p.c.toNat < -128 ∨ 127 < a.toInt + m.toInt + p.c.toNat) }) := by
  have hsum := nineBitSum_toNat a m p.c
  have hresult : (a.setWidth 9 + m.setWidth 9 + (BitVec.ofBool p.c).setWidth 9 : BitVec 9).extractLsb' 0 8 =
      BitVec.ofNat 8 (a.toNat + m.toNat + p.c.toNat) := by
    apply BitVec.eq_of_toNat_eq
    rw [BitVec.extractLsb'_toNat, hsum, BitVec.toNat_ofNat, Nat.shiftRight_zero]
  have hcarry : (a.setWidth 9 + m.setWidth 9 + (BitVec.ofBool p.c).setWidth 9 : BitVec 9).getLsbD 8 =
      decide (256 ≤ a.toNat + m.toNat + p.c.toNat) := by
    rw [← BitVec.msb_eq_getLsbD_last, BitVec.msb_eq_decide, hsum]
  have hoverflow : ((a.getLsbD 7 == m.getLsbD 7) &&
        ((BitVec.ofNat 8 (a.toNat + m.toNat + p.c.toNat)).getLsbD 7 != a.getLsbD 7)) =
      decide (a.toInt + m.toInt + p.c.toNat < -128 ∨ 127 < a.toInt + m.toInt + p.c.toNat) := by
    have := a.isLt
    have := m.isLt
    have := ofBool_toNat_le p.c
    simp only [getLsbD_seven, byte_toInt, BitVec.toNat_ofNat]
    rw [Bool.eq_iff_iff]
    simp only [Bool.and_eq_true, beq_iff_eq, bne_iff_ne, ne_eq, decide_eq_decide, decide_eq_true_eq]
    split <;> split <;> omega
  simp only [addBinary, hresult, hcarry, hoverflow, PS.setNZ_eq_withNZ]

theorem subBinary_eq (a m : Byte) (p : PS) : subBinary a m p =
    (BitVec.ofNat 8 (a.toNat + 256 - m.toNat - (1 - p.c.toNat)),
      { withNZ p (BitVec.ofNat 8 (a.toNat + 256 - m.toNat - (1 - p.c.toNat))) with
        c := decide (m.toNat + (1 - p.c.toNat) ≤ a.toNat)
        v := decide (a.toInt - m.toInt - (1 - (p.c.toNat : Int)) < -128 ∨
          127 < a.toInt - m.toInt - (1 - (p.c.toNat : Int))) }) := by
  have ha : a.toNat < 256 := a.isLt
  have hm : m.toNat < 256 := m.isLt
  have hc := ofBool_toNat_le p.c
  have hresult : BitVec.ofInt 8 ((a.toNat : Int) - m.toNat - (1 - p.c.toNat)) =
      BitVec.ofNat 8 (a.toNat + 256 - m.toNat - (1 - p.c.toNat)) := by
    apply BitVec.eq_of_toNat_eq
    rw [BitVec.toNat_ofInt, BitVec.toNat_ofNat]
    omega
  have hcarry : decide (0 ≤ (a.toNat : Int) - m.toNat - (1 - p.c.toNat)) =
      decide (m.toNat + (1 - p.c.toNat) ≤ a.toNat) := by
    rw [decide_eq_decide]
    omega
  have hoverflow : ((a.getLsbD 7 != m.getLsbD 7) &&
        ((BitVec.ofNat 8 (a.toNat + 256 - m.toNat - (1 - p.c.toNat))).getLsbD 7 != a.getLsbD 7)) =
      decide (a.toInt - m.toInt - (1 - (p.c.toNat : Int)) < -128 ∨
          127 < a.toInt - m.toInt - (1 - (p.c.toNat : Int))) := by
    simp only [getLsbD_seven, byte_toInt, BitVec.toNat_ofNat]
    rw [Bool.eq_iff_iff]
    simp only [Bool.and_eq_true, bne_iff_ne, ne_eq, decide_eq_decide, decide_eq_true_eq]
    split <;> split <;> omega
  simp only [subBinary, hresult, hcarry, hoverflow, PS.setNZ_eq_withNZ]

/-! Packed decimal (R182, R183). -/

theorem bcd_toNat (n : Nat) : (bcd n).toNat = 16 * (n / 10 % 10) + n % 10 := by
  rw [bcd, BitVec.toNat_ofNat]
  omega

theorem validBcd_bcd (n : Nat) : validBcd (bcd n) = true := by
  simp only [validBcd, bcd_toNat, Bool.and_eq_true, decide_eq_true_eq]
  omega

theorem dec_bcd {n : Nat} (h : n < 100) : dec (bcd n) = n := by
  simp only [dec, bcd_toNat]
  omega

theorem dec_lt_of_validBcd {v : Byte} (h : validBcd v = true) : dec v < 100 := by
  simp only [validBcd, Bool.and_eq_true, decide_eq_true_eq] at h
  simp only [dec]
  omega

/-- Packed operands give the packed sum modulo 100 and its decimal carry. -/
theorem addDecimal_valid (tick : Nat) {a m : Byte} (p : PS) (ha : validBcd a = true) (hm : validBcd m = true) :
    validBcd (addDecimal tick a m p).1 = true ∧
    dec (addDecimal tick a m p).1 = (dec a + dec m + p.c.toNat) % 100 ∧
    (addDecimal tick a m p).2.c = decide (100 ≤ dec a + dec m + p.c.toNat) := by
  rw [addDecimal, ha, hm, Bool.and_true, if_pos rfl]
  exact ⟨validBcd_bcd _, dec_bcd (Nat.mod_lt _ (by omega)), rfl⟩

/-- Packed operands give the packed difference modulo 100, and C says that no borrow occurred. -/
theorem subDecimal_valid (tick : Nat) {a m : Byte} (p : PS) (ha : validBcd a = true) (hm : validBcd m = true) :
    validBcd (subDecimal tick a m p).1 = true ∧
    dec (subDecimal tick a m p).1 = (dec a + 100 - dec m - (1 - p.c.toNat)) % 100 ∧
    (subDecimal tick a m p).2.c = decide (dec m + (1 - p.c.toNat) ≤ dec a) := by
  have hm100 := dec_lt_of_validBcd hm
  have hc := ofBool_toNat_le p.c
  rw [subDecimal, ha, hm, Bool.and_true, if_pos rfl]
  refine ⟨validBcd_bcd _, ?digits, ?borrow⟩
  case digits =>
    rw [dec_bcd (by omega)]
    omega
  case borrow =>
    simp only [PS.afterDecimal, decide_eq_decide]
    omega

theorem addDecimal_keeps (tick : Nat) (a m : Byte) (p : PS) :
    (addDecimal tick a m p).2.t = p.t ∧ (addDecimal tick a m p).2.d = p.d ∧ (addDecimal tick a m p).2.i = p.i := by
  unfold addDecimal
  split <;> exact ⟨rfl, rfl, rfl⟩

theorem subDecimal_keeps (tick : Nat) (a m : Byte) (p : PS) :
    (subDecimal tick a m p).2.t = p.t ∧ (subDecimal tick a m p).2.d = p.d ∧ (subDecimal tick a m p).2.i = p.i := by
  unfold subDecimal
  split <;> exact ⟨rfl, rfl, rfl⟩

/-! Comparison and bit test (R187 to R190). -/

theorem byte_sub_toNat (a m : Byte) : (a - m).toNat = (a.toNat + 256 - m.toNat) % 256 := by
  have := m.isLt
  rw [BitVec.toNat_sub]
  omega

theorem compareFlags_eq (r m : Byte) (p : PS) : compareFlags r m p =
    { p with
      n := decide (128 ≤ (r.toNat + 256 - m.toNat) % 256)
      z := decide (r = m)
      c := decide (m.toNat ≤ r.toNat) } := by
  have hzero : decide (r - m = 0x00#8) = decide (r = m) := by
    rw [decide_eq_decide]
    exact sub_eq_zero
  rw [compareFlags, PS.setNZ_eq_withNZ, withNZ, byte_sub_toNat, hzero]

/-- A byte is 0 where each of its bits is. -/
theorem and_eq_zero_iff (a m : Byte) : a &&& m = 0x00#8 ↔ ∀ k : Fin 8, (a.getLsbD k && m.getLsbD k) = false := by
  constructor
  · intro h k
    rw [← BitVec.getLsbD_and, h, BitVec.getLsbD_zero]
  · intro h
    apply BitVec.eq_of_getLsbD_eq
    intro j hj
    rw [BitVec.getLsbD_and, h ⟨j, hj⟩, BitVec.getLsbD_zero]

/-! Shifts, rotates and the bit operations (R220 to R226). -/

theorem shiftLeft_fst_toNat (v : Byte) (p : PS) : (shiftLeft v p).1.toNat = 2 * v.toNat % 256 := by
  have := v.isLt
  simp only [shiftLeft, BitVec.toNat_append, BitVec.extractLsb'_toNat]
  rw [← Nat.shiftLeft_add_eq_or_of_lt (by decide), Nat.shiftLeft_eq, Nat.shiftRight_zero]
  simp; omega

theorem rotateLeft_fst_toNat (v : Byte) (p : PS) : (rotateLeft v p).1.toNat = (2 * v.toNat + p.c.toNat) % 256 := by
  have := ofBool_toNat_le p.c
  simp only [rotateLeft, BitVec.toNat_append, BitVec.extractLsb'_toNat]
  rw [← Nat.shiftLeft_add_eq_or_of_lt (BitVec.isLt _), Nat.shiftLeft_eq, Nat.shiftRight_zero, BitVec.toNat_ofBool]
  omega

theorem shiftRight_fst_toNat (v : Byte) (p : PS) : (shiftRight v p).1.toNat = v.toNat / 2 := by
  have := v.isLt
  simp only [shiftRight, BitVec.toNat_append, BitVec.extractLsb'_toNat]
  rw [← Nat.shiftLeft_add_eq_or_of_lt (Nat.mod_lt _ (by decide)), Nat.shiftLeft_eq, Nat.shiftRight_eq_div_pow]
  simp; omega

theorem rotateRight_fst_toNat (v : Byte) (p : PS) : (rotateRight v p).1.toNat = v.toNat / 2 + 128 * p.c.toNat := by
  have := v.isLt
  simp only [rotateRight, BitVec.toNat_append, BitVec.extractLsb'_toNat]
  rw [← Nat.shiftLeft_add_eq_or_of_lt (Nat.mod_lt _ (by decide)), Nat.shiftLeft_eq, Nat.shiftRight_eq_div_pow,
    BitVec.toNat_ofBool]
  omega

theorem getLsbD_zero_eq_odd (v : Byte) : v.getLsbD 0 = decide (v.toNat % 2 = 1) := by
  rw [BitVec.getLsbD, Nat.testBit_zero]

theorem rotateNibbles_fst_toNat (v : Byte) (p : PS) :
    (rotateNibbles v p).1.toNat = 16 * (v.toNat % 16) + v.toNat / 16 := by
  have := v.isLt
  simp only [rotateNibbles, BitVec.toNat_append, BitVec.extractLsb'_toNat]
  rw [← Nat.shiftLeft_add_eq_or_of_lt (Nat.mod_lt _ (by decide)), Nat.shiftLeft_eq, Nat.shiftRight_eq_div_pow,
    Nat.shiftRight_eq_div_pow]
  omega

theorem complement_fst_toNat (v : Byte) (p : PS) : (complement v p).1.toNat = 255 - v.toNat := by
  simp [complement]

theorem increment_fst_toNat (v : Byte) (p : PS) : (increment v p).1.toNat = (v.toNat + 1) % 256 := by
  simp [increment]

theorem decrement_fst_toNat (v : Byte) (p : PS) : (decrement v p).1.toNat = (v.toNat + 255) % 256 :=
  byte_sub_one_toNat v

theorem increment_snd (v : Byte) (p : PS) : (increment v p).2 = withNZ p (increment v p).1 := PS.setNZ_eq_withNZ _ _

theorem decrement_snd (v : Byte) (p : PS) : (decrement v p).2 = withNZ p (decrement v p).1 := PS.setNZ_eq_withNZ _ _

theorem complement_snd (v : Byte) (p : PS) : (complement v p).2 = withNZ p (complement v p).1 := PS.setNZ_eq_withNZ _ _

/-- The bit shifted out at the high end is 1 from 128 on. -/
theorem shiftLeft_snd (v : Byte) (p : PS) :
    (shiftLeft v p).2 = { withNZ p (shiftLeft v p).1 with c := decide (128 ≤ v.toNat) } := by
  rw [← getLsbD_seven, ← PS.setNZ_eq_withNZ, shiftLeft]

theorem rotateLeft_snd (v : Byte) (p : PS) :
    (rotateLeft v p).2 = { withNZ p (rotateLeft v p).1 with c := decide (128 ≤ v.toNat) } := by
  rw [← getLsbD_seven, ← PS.setNZ_eq_withNZ, rotateLeft]

/-- The bit shifted out at the low end is 1 in an odd byte. -/
theorem shiftRight_snd (v : Byte) (p : PS) :
    (shiftRight v p).2 = { withNZ p (shiftRight v p).1 with c := decide (v.toNat % 2 = 1) } := by
  rw [← getLsbD_zero_eq_odd, ← PS.setNZ_eq_withNZ, shiftRight]

theorem rotateRight_snd (v : Byte) (p : PS) :
    (rotateRight v p).2 = { withNZ p (rotateRight v p).1 with c := decide (v.toNat % 2 = 1) } := by
  rw [← getLsbD_zero_eq_odd, ← PS.setNZ_eq_withNZ, rotateRight]

theorem getLsbD_clearBit (b : BitNo) (v : Byte) (p : PS) {k : Nat} (hk : k < 8) :
    (clearBit b v p).1.getLsbD k = if k = b.toNat then false else v.getLsbD k := by
  rw [clearBit, BitVec.getLsbD_and, BitVec.getLsbD_not, getLsbD_bitMask b k hk]
  split <;> simp [*]

theorem getLsbD_setBit (b : BitNo) (v : Byte) (p : PS) {k : Nat} (hk : k < 8) :
    (setBit b v p).1.getLsbD k = if k = b.toNat then true else v.getLsbD k := by
  rw [setBit, BitVec.getLsbD_or, getLsbD_bitMask b k hk]
  split <;> simp [*]

end Sys2Proof.Machine
end

section
/-! The instructions with an operand: loads, stores, arithmetic, logic, comparison and read-modify-write
(spec/41_load_store_transfer.md, spec/42_arithmetic_logic.md, spec/43_shift_rotate_bit.md). -/

namespace Sys2Proof.Machine

/-! What the shared operations answer, with PC moved on: the result, PS, and the frame. -/

/-- A T-sensitive instruction with a result (R201). -/
theorem exec_aluOp {i : Instr} {s : State} {f : Byte → Byte → PS → Byte × PS} {o : Operand}
    (h : exec i s = .next ((aluOp f o s).advance i.length)) :
    ∃ t, exec i s = .next t ∧ AccResult s t (f (accOperand s) (o.value s) s.ps).1 ∧
      t.ps = (f (accOperand s) (o.value s) s.ps).2 ∧
      t.x = s.x ∧ t.y = s.y ∧ t.sp = s.sp ∧ PastInstr i s t ∧ Steady s t := by
  rw [← accIn_eq]
  exact ⟨_, h, s.accOut_spec _, rfl, by simp, by simp, by simp, by simp [PastInstr], by simp [Steady]⟩

/-- A read-modify-write instruction (R73, R122). -/
theorem exec_readModifyWrite {i : Instr} {s : State} {f : Byte → PS → Byte × PS} {o : Operand}
    (ho : ∀ v, o ≠ .imm v) (h : exec i s = .next ((readModifyWrite f o s).advance i.length)) :
    ∃ t, exec i s = .next t ∧ OperandResult o s t (f (o.value s) s.ps).1 ∧ t.ps = (f (o.value s) s.ps).2 ∧
      t.x = s.x ∧ t.y = s.y ∧ t.sp = s.sp ∧ PastInstr i s t ∧ Steady s t := by
  have hresult : OperandResult o s ((readModifyWrite f o s).advance i.length) (f (o.value s) s.ps).1 := by
    have := State.put_spec o (f (o.value s) s.ps).1 s ho
    cases o <;> exact this
  exact ⟨_, h, hresult, rfl, by simp, by simp, by simp, by simp [PastInstr], by simp [Steady]⟩

/-- An instruction that writes PS only. -/
theorem exec_setPs {i : Instr} {s : State} {p : PS} (h : exec i s = .next ((s.setPs p).advance i.length)) :
    ∃ t, exec i s = .next t ∧ t.ps = p ∧ SameRegs s t ∧ SameMemory s t ∧ PastInstr i s t ∧ Steady s t :=
  ⟨_, h, rfl, ⟨rfl, rfl, rfl, rfl⟩, fun _ => rfl, rfl, ⟨rfl, rfl, rfl, rfl, rfl, rfl⟩⟩

/-- An instruction that stores one byte only. -/
theorem exec_write {i : Instr} {s : State} {a : Addr} {v : Byte}
    (h : exec i s = .next ((s.write a v).advance i.length)) :
    ∃ t, exec i s = .next t ∧ StoresByte s t a v ∧ SameRegs s t ∧ t.ps = s.ps ∧ PastInstr i s t ∧ Steady s t :=
  ⟨_, h, s.write_storesByte a v, by simp [SameRegs], by simp, by simp [PastInstr], by simp [Steady]⟩

/-! Loads and stores (R150 to R156). -/

/-- LDA is a T-sensitive instruction whose result is its operand. -/
theorem loadA_eq_aluOp (o : Operand) (s : State) : loadA o s = aluOp (fun _ m p => (m, p.setNZ m)) o s := rfl

/-- Settles O10: LDA is `aluOp` of the operand itself, and its flags are those of `withNZ`. -/
theorem ldaLoadsOrMovesTheOperand : Obligations.LdaLoadsOrMovesTheOperand := by
  intro i hi
  obtain ⟨o, ho, hexec⟩ := exec_lda hi
  refine ⟨o, ho, fun s => ?_⟩
  have hnext := hexec s
  rw [loadA_eq_aluOp] at hnext
  rw [← PS.setNZ_eq_withNZ]
  exact exec_aluOp hnext

/-- Settles O11: one write of a register and one of PS. -/
theorem ldxAndLdyLoadTheirRegister : Obligations.LdxAndLdyLoadTheirRegister := by
  rintro i (hi | hi)
  · obtain ⟨o, ho, hexec⟩ := exec_ldx hi
    refine ⟨o, ho, fun s => ⟨_, hexec s, ?_, ?_, PS.setNZ_eq_withNZ _ _, rfl, rfl, fun _ => rfl, rfl,
      ⟨rfl, rfl, rfl, rfl, rfl, rfl⟩⟩⟩ <;> simp [hi, loadX]
  · obtain ⟨o, ho, hexec⟩ := exec_ldy hi
    refine ⟨o, ho, fun s => ⟨_, hexec s, ?_, ?_, PS.setNZ_eq_withNZ _ _, rfl, rfl, fun _ => rfl, rfl,
      ⟨rfl, rfl, rfl, rfl, rfl, rfl⟩⟩⟩ <;> simp [hi, loadY]

/-- Settles O12: each store is one write. -/
theorem storesWriteOneByte : Obligations.StoresWriteOneByte := by
  refine ⟨fun i hi => ?_, fun v z s => exec_write (i := .ldm v z) rfl⟩
  rcases hi with hi | hi | hi
  · obtain ⟨m, hm, hexec⟩ := exec_sta hi
    exact ⟨m, hm, fun s => by simpa [hi] using exec_write (hexec s)⟩
  · obtain ⟨m, hm, hexec⟩ := exec_stx hi
    exact ⟨m, hm, fun s => by simpa [hi] using exec_write (hexec s)⟩
  · obtain ⟨m, hm, hexec⟩ := exec_sty hi
    exact ⟨m, hm, fun s => by simpa [hi] using exec_write (hexec s)⟩

/-! The stack instructions (R163 to R166). -/

/-- An instruction that pushes one byte only. -/
theorem exec_push {i : Instr} {s : State} {v : Byte} (h : exec i s = .next ((s.push v).advance i.length)) :
    ∃ t, exec i s = .next t ∧ StoresByte s t s.stackAddr v ∧ t.sp = s.sp - 1#8 ∧ t.a = s.a ∧ t.x = s.x ∧ t.y = s.y ∧
      t.ps = s.ps ∧ PastInstr i s t ∧ Steady s t :=
  ⟨_, h, s.push_storesByte v, by simp, by simp, by simp, by simp, by simp, by simp [PastInstr], by simp [Steady]⟩

/-- The weights of the bits of PS as a byte (R27). -/
theorem PS.toByte_toNat (p : PS) (b : Bool) :
    (p.toByte b).toNat = 128 * p.n.toNat + 64 * p.v.toNat + 32 * p.t.toNat + 16 * b.toNat + 8 * p.d.toNat +
      4 * p.i.toNat + 2 * p.z.toNat + p.c.toNat := by
  obtain ⟨n, v, t, d, i, z, c⟩ := p
  revert n v t d i z c b; decide

/-- Settles O14: each is one push. -/
theorem phaAndPhpPushTheirRegister : Obligations.PhaAndPhpPushTheirRegister := by
  intro s
  refine ⟨exec_push (i := .pha) rfl, ?_⟩
  obtain ⟨t, hexec, hstore, hframe⟩ := exec_push (i := .php) (s := s) (v := s.ps.toByte false) rfl
  exact ⟨t, s.ps.toByte false, hexec, hstore, by simp [PS.toByte_toNat], hframe⟩

/-- Settles O15: both are the pull of one byte, with S one place up. -/
theorem plaAndPlpPullTheirRegister : Obligations.PlaAndPlpPullTheirRegister := by
  intro s
  refine ⟨⟨_, s.pullByte .pull1, s.pullByte_eq .pull1, rfl, rfl, PS.setNZ_eq_withNZ _ _, rfl, rfl, rfl, fun _ => rfl,
    rfl, ⟨rfl, rfl, rfl, rfl, rfl, rfl⟩⟩, ⟨_, s.pullByte .pull1, s.pullByte_eq .pull1, rfl, rfl, rfl, rfl, rfl, rfl,
    fun _ => rfl, rfl, ⟨rfl, rfl, rfl, rfl, rfl, rfl⟩⟩⟩

/-! ADC and SBC (R180 to R183). -/

/-- Settles O16: with D = 0 the result and the flags are those of `addBinary_eq`. -/
theorem adcBinaryAddsWithCarry : Obligations.AdcBinaryAddsWithCarry := by
  intro i hi
  obtain ⟨o, ho, hexec⟩ := exec_adc hi
  refine ⟨o, ho, fun s hd => ?_⟩
  obtain ⟨t, hnext, hresult, hps, hframe⟩ := exec_aluOp (hexec s)
  have hsum : addWithCarry s.tick (accOperand s) (o.value s) s.ps = addBinary (accOperand s) (o.value s) s.ps := by
    simp [addWithCarry, hd]
  rw [hsum, addBinary_eq] at hresult hps
  exact ⟨t, _, hnext, rfl, hresult, hps, hframe⟩

/-- Settles O17: with D = 0 the result and the flags are those of `subBinary_eq`. -/
theorem sbcBinarySubtractsWithBorrow : Obligations.SbcBinarySubtractsWithBorrow := by
  intro i hi
  obtain ⟨o, ho, hexec⟩ := exec_sbc hi
  refine ⟨o, ho, fun s hd => ?_⟩
  obtain ⟨t, hnext, hresult, hps, hframe⟩ := exec_aluOp (hexec s)
  have hdiff : subWithCarry s.tick (accOperand s) (o.value s) s.ps = subBinary (accOperand s) (o.value s) s.ps := by
    simp [subWithCarry, hd]
  rw [hdiff, subBinary_eq] at hresult hps
  exact ⟨t, _, hnext, rfl, hresult, hps, hframe⟩

/-- Settles O18: with D = 1 the flags T, D and I are kept, and packed operands give what `addDecimal_valid` says. -/
theorem adcDecimalAddsDecimalDigits : Obligations.AdcDecimalAddsDecimalDigits := by
  intro i hi
  obtain ⟨o, ho, hexec⟩ := exec_adc hi
  refine ⟨o, ho, fun s hd => ?_⟩
  obtain ⟨t, hnext, hresult, hps, hframe⟩ := exec_aluOp (hexec s)
  have hsum : addWithCarry s.tick (accOperand s) (o.value s) s.ps =
      addDecimal s.tick (accOperand s) (o.value s) s.ps := by simp [addWithCarry, hd]
  obtain ⟨ht, hd', hi'⟩ := addDecimal_keeps s.tick (accOperand s) (o.value s) s.ps
  rw [hsum] at hresult hps
  rw [← hps] at ht hd' hi'
  refine ⟨t, _, hnext, hresult, fun hacc hm => ?_, ht, hd', hi', hframe⟩
  rw [hps]
  exact addDecimal_valid s.tick s.ps hacc hm

/-- Settles O19: with D = 1 the flags T, D and I are kept, and packed operands give what `subDecimal_valid` says. -/
theorem sbcDecimalSubtractsDecimalDigits : Obligations.SbcDecimalSubtractsDecimalDigits := by
  intro i hi
  obtain ⟨o, ho, hexec⟩ := exec_sbc hi
  refine ⟨o, ho, fun s hd => ?_⟩
  obtain ⟨t, hnext, hresult, hps, hframe⟩ := exec_aluOp (hexec s)
  have hdiff : subWithCarry s.tick (accOperand s) (o.value s) s.ps =
      subDecimal s.tick (accOperand s) (o.value s) s.ps := by simp [subWithCarry, hd]
  obtain ⟨ht, hd', hi'⟩ := subDecimal_keeps s.tick (accOperand s) (o.value s) s.ps
  rw [hdiff] at hresult hps
  rw [← hps] at ht hd' hi'
  refine ⟨t, _, hnext, hresult, fun hacc hm => ?_, ht, hd', hi', hframe⟩
  rw [hps]
  exact subDecimal_valid s.tick s.ps hacc hm

/-! Logic, comparison and bit test (R184 to R191). -/

/-- Settles O20: the result of each is a bitwise function of `acc` and M, and its flags are N and Z of it. -/
theorem logicWorksBitByBit : Obligations.LogicWorksBitByBit := by
  rintro i (hi | hi | hi)
  · obtain ⟨o, ho, hexec⟩ := exec_and hi
    refine ⟨o, ho, fun s => ?_⟩
    obtain ⟨t, hnext, hresult, hps, hframe⟩ := exec_aluOp (hexec s)
    exact ⟨t, _, hnext, fun k => by simp [logicAnd, hi], hresult, hps.trans (PS.setNZ_eq_withNZ _ _), hframe⟩
  · obtain ⟨o, ho, hexec⟩ := exec_ora hi
    refine ⟨o, ho, fun s => ?_⟩
    obtain ⟨t, hnext, hresult, hps, hframe⟩ := exec_aluOp (hexec s)
    exact ⟨t, _, hnext, fun k => by simp [logicOr, hi], hresult, hps.trans (PS.setNZ_eq_withNZ _ _), hframe⟩
  · obtain ⟨o, ho, hexec⟩ := exec_eor hi
    refine ⟨o, ho, fun s => ?_⟩
    obtain ⟨t, hnext, hresult, hps, hframe⟩ := exec_aluOp (hexec s)
    exact ⟨t, _, hnext, fun k => by simp [logicXor, hi], hresult, hps.trans (PS.setNZ_eq_withNZ _ _), hframe⟩

/-- Settles O21: all three are one comparison, `compareFlags_eq`, of another register. -/
theorem comparesSetFlagsOnly : Obligations.ComparesSetFlagsOnly := by
  have compares : ∀ {i : Instr} {o : Operand} {s : State} {r : Byte},
      exec i s = .next ((compareWith r o s).advance i.length) → ∃ t, exec i s = .next t ∧
        t.ps = { s.ps with
          n := decide (128 ≤ (r.toNat + 256 - (o.value s).toNat) % 256)
          z := decide (r = o.value s)
          c := decide ((o.value s).toNat ≤ r.toNat) } ∧
        SameRegs s t ∧ SameMemory s t ∧ PastInstr i s t ∧ Steady s t := by
    intro i o s r h
    rw [compareWith, compareFlags_eq] at h
    exact exec_setPs h
  rintro i (hi | hi | hi)
  · obtain ⟨o, ho, hexec⟩ := exec_cmp hi
    refine ⟨o, ho, fun s => ?_⟩
    obtain ⟨t, hnext, hrest⟩ := compares (hexec s)
    exact ⟨t, _, hnext, by simp [hi, accIn_eq], hrest⟩
  · obtain ⟨o, ho, hexec⟩ := exec_cpx hi
    refine ⟨o, ho, fun s => ?_⟩
    obtain ⟨t, hnext, hrest⟩ := compares (hexec s)
    exact ⟨t, _, hnext, by simp [hi], hrest⟩
  · obtain ⟨o, ho, hexec⟩ := exec_cpy hi
    refine ⟨o, ho, fun s => ?_⟩
    obtain ⟨t, hnext, hrest⟩ := compares (hexec s)
    exact ⟨t, _, hnext, by simp [hi], hrest⟩

/-- Settles O22: Z of BIT is 1 where no bit is common to A and M, `and_eq_zero_iff`. -/
theorem bitAndTstSetFlagsOnly : Obligations.BitAndTstSetFlagsOnly := by
  refine ⟨fun i hi => ?bit, fun z s => ?tst⟩
  case bit =>
    obtain ⟨o, ho, hexec⟩ := exec_bit hi
    refine ⟨o, ho, fun s => ?_⟩
    obtain ⟨t, hnext, hps, hrest⟩ := exec_setPs (hexec s)
    refine ⟨t, hnext, ?_, hrest⟩
    rw [hps, bitFlags, decide_eq_decide.mpr (and_eq_zero_iff s.a (o.value s)).symm]
    rfl
  case tst =>
    rw [← PS.setNZ_eq_withNZ]
    exact exec_setPs (i := .tstZp z) rfl

/-! Read-modify-write (R192 to R194, R220 to R226). -/

/-- Settles O23: each is `readModifyWrite` of a function of one byte, whose number is given above. -/
theorem incDecComAndRrfModifyInPlace : Obligations.IncDecComAndRrfModifyInPlace := by
  rintro i (hi | hi | hi | hi)
  · obtain ⟨o, ho, himm, hexec⟩ := exec_inc hi
    refine ⟨o, ho, fun s => ?_⟩
    obtain ⟨t, hnext, hresult, hps, hframe⟩ := exec_readModifyWrite himm (hexec s)
    exact ⟨t, _, hnext, by simp [hi, increment_fst_toNat], hresult, by simp [hi, hps, increment_snd], hframe⟩
  · obtain ⟨o, ho, himm, hexec⟩ := exec_dec hi
    refine ⟨o, ho, fun s => ?_⟩
    obtain ⟨t, hnext, hresult, hps, hframe⟩ := exec_readModifyWrite himm (hexec s)
    exact ⟨t, _, hnext, by simp [hi, decrement_fst_toNat], hresult, by simp [hi, hps, decrement_snd], hframe⟩
  · obtain ⟨o, ho, himm, hexec⟩ := exec_com hi
    refine ⟨o, ho, fun s => ?_⟩
    obtain ⟨t, hnext, hresult, hps, hframe⟩ := exec_readModifyWrite himm (hexec s)
    exact ⟨t, _, hnext, by simp [hi, complement_fst_toNat], hresult, by simp [hi, hps, complement_snd], hframe⟩
  · obtain ⟨o, ho, himm, hexec⟩ := exec_rrf hi
    refine ⟨o, ho, fun s => ?_⟩
    obtain ⟨t, hnext, hresult, hps, hframe⟩ := exec_readModifyWrite himm (hexec s)
    exact ⟨t, _, hnext, by simp [hi, rotateNibbles_fst_toNat], hresult,
      by simp [hi, hps, rotateNibbles], hframe⟩

/-- Settles O27: the number of each result, and the flags `withNZ` of it with the bit shifted out as C. -/
theorem shiftsAndRotatesMoveOneBit : Obligations.ShiftsAndRotatesMoveOneBit := by
  rintro i (hi | hi | hi | hi)
  · obtain ⟨o, ho, himm, hexec⟩ := exec_asl hi
    refine ⟨o, ho, fun s => ?_⟩
    obtain ⟨t, hnext, hresult, hps, hframe⟩ := exec_readModifyWrite himm (hexec s)
    exact ⟨t, _, hnext, by simp [hi, shiftLeft_fst_toNat], hresult,
      by simp [hi, hps, shiftLeft_snd], hframe⟩
  · obtain ⟨o, ho, himm, hexec⟩ := exec_lsr hi
    refine ⟨o, ho, fun s => ?_⟩
    obtain ⟨t, hnext, hresult, hps, hframe⟩ := exec_readModifyWrite himm (hexec s)
    exact ⟨t, _, hnext, by simp [hi, shiftRight_fst_toNat], hresult,
      by simp [hi, hps, shiftRight_snd], hframe⟩
  · obtain ⟨o, ho, himm, hexec⟩ := exec_rol hi
    refine ⟨o, ho, fun s => ?_⟩
    obtain ⟨t, hnext, hresult, hps, hframe⟩ := exec_readModifyWrite himm (hexec s)
    exact ⟨t, _, hnext, by simp [hi, rotateLeft_fst_toNat], hresult,
      by simp [hi, hps, rotateLeft_snd], hframe⟩
  · obtain ⟨o, ho, himm, hexec⟩ := exec_ror hi
    refine ⟨o, ho, fun s => ?_⟩
    obtain ⟨t, hnext, hresult, hps, hframe⟩ := exec_readModifyWrite himm (hexec s)
    exact ⟨t, _, hnext, by simp [hi, rotateRight_fst_toNat], hresult,
      by simp [hi, hps, rotateRight_snd], hframe⟩

/-- Settles O28: the result bit by bit; PS is what it was. -/
theorem clbAndSebChangeOneBit : Obligations.ClbAndSebChangeOneBit := by
  rintro i (hi | hi)
  · obtain ⟨b, o, ho, himm, hexec⟩ := exec_clb hi
    refine ⟨b, o, ho, fun s => ?_⟩
    obtain ⟨t, hnext, hresult, hps, hframe⟩ := exec_readModifyWrite himm (hexec s)
    exact ⟨t, _, hnext, fun k hk => by simpa [hi] using getLsbD_clearBit b (o.value s) s.ps hk, hresult, hps, hframe⟩
  · obtain ⟨b, o, ho, himm, hexec⟩ := exec_seb hi
    refine ⟨b, o, ho, fun s => ?_⟩
    obtain ⟨t, hnext, hresult, hps, hframe⟩ := exec_readModifyWrite himm (hexec s)
    exact ⟨t, _, hnext, fun k hk => by simpa [hi] using getLsbD_setBit b (o.value s) s.ps hk, hresult, hps, hframe⟩

/-! INX, INY, DEX and DEY (R195 to R198). -/

/-- Settles O24: each is a transfer of the register one up or down. -/
theorem registerIncrementsWrap : Obligations.RegisterIncrementsWrap := by
  refine ⟨rfl, rfl, rfl, rfl, fun s => ⟨rfl, rfl, rfl, rfl, ⟨s.x + 1#8, ?_, ?_⟩, ⟨s.y + 1#8, ?_, ?_⟩,
    ⟨s.x - 1#8, byte_sub_one_toNat s.x, ?_⟩, ⟨s.y - 1#8, byte_sub_one_toNat s.y, ?_⟩⟩⟩
  · exact BitVec.toNat_add s.x 1#8
  · exact congrArg _ (State.setPs_setNZ_advance_one (s.setX (s.x + 1#8)) s.ps (s.x + 1#8))
  · exact BitVec.toNat_add s.y 1#8
  · exact congrArg _ (State.setPs_setNZ_advance_one (s.setY (s.y + 1#8)) s.ps (s.y + 1#8))
  · exact congrArg _ (State.setPs_setNZ_advance_one (s.setX (s.x - 1#8)) s.ps (s.x - 1#8))
  · exact congrArg _ (State.setPs_setNZ_advance_one (s.setY (s.y - 1#8)) s.ps (s.y - 1#8))

/-! MUL and DIV (R199, R200). -/

theorem hiByte_toNat (a : Addr) : (hiByte a).toNat = a.toNat / 256 := by
  have := a.isLt
  rw [hiByte, BitVec.extractLsb'_toNat, Nat.shiftRight_eq_div_pow]
  omega

theorem loByte_toNat (a : Addr) : (loByte a).toNat = a.toNat % 256 := by
  rw [loByte, BitVec.extractLsb'_toNat, Nat.shiftRight_zero]

/-- The 16-bit product of two bytes does not wrap. -/
theorem byteProduct_toNat (a m : Byte) : (a.setWidth 16 * m.setWidth 16 : BitVec 16).toNat = a.toNat * m.toNat := by
  have ha : a.toNat < 256 := a.isLt
  have hm : m.toNat < 256 := m.isLt
  have hwa : (a.setWidth 16).toNat = a.toNat := by rw [BitVec.toNat_setWidth]; omega
  have hwm : (m.setWidth 16).toNat = m.toNat := by rw [BitVec.toNat_setWidth]; omega
  have hlt : a.toNat * m.toNat < 2 ^ 16 := by nlinarith
  rw [BitVec.toNat_mul, hwa, hwm, Nat.mod_eq_of_lt hlt]

/-- An instruction that writes A and pushes one byte. -/
theorem exec_setA_push {i : Instr} {s : State} {a v : Byte}
    (h : exec i s = .next (((s.setA a).push v).advance i.length)) :
    ∃ t, exec i s = .next t ∧ t.a = a ∧ StoresByte s t s.stackAddr v ∧ t.sp = s.sp - 1#8 ∧ t.x = s.x ∧ t.y = s.y ∧
      t.ps = s.ps ∧ PastInstr i s t ∧ Steady s t :=
  ⟨_, h, by simp, (s.setA a).push_storesByte v, by simp, by simp, by simp, by simp, by simp [PastInstr],
    by simp [Steady]⟩

/-- Settles O25: A and the pushed byte are the two bytes of the 16-bit product, which does not wrap. -/
theorem mulPushesTheHighByte : Obligations.MulPushesTheHighByte := by
  intro z s
  obtain ⟨t, hnext, ha, hframe⟩ := exec_setA_push (i := .mulZpX z) (s := s) rfl
  refine ⟨t, _, hnext, ?_, hframe⟩
  rw [ha, hiByte_toNat, loByte_toNat, byteProduct_toNat, Nat.div_add_mod]
  rfl

theorem dividend_eq (z : Byte) (s : State) {lo hi : Addr} (hlo : lo.toNat = (z.toNat + s.x.toNat) % 256)
    (hhi : hi.toNat = (z.toNat + s.x.toNat + 1) % 256) :
    dividend z s = 256 * (s.read .dataHi hi).toNat + (s.read .data lo).toNat := by
  have hlo' : lo = zpAddr (z + s.x) := eq_zpAddr (by rw [hlo, BitVec.toNat_add])
  have hhi' : hi = zpAddr (z + s.x + 1#8) := eq_zpAddr (by rw [hhi]; simp [BitVec.toNat_add])
  rw [dividend, addrOf_toNat, hlo', hhi']

/-- DIV writes A and pushes, whether the spec has a quotient or not. -/
theorem divide_cases (z : Byte) (s : State) : ∃ q r : Byte, divide z s = (s.setA q).push r ∧
    (s.a ≠ 0x00#8 → dividend z s / s.a.toNat ≤ 255 →
      q = BitVec.ofNat 8 (dividend z s / s.a.toNat) ∧ r = ~~~(BitVec.ofNat 8 (dividend z s % s.a.toNat))) := by
  by_cases h : s.a.toNat ≠ 0 ∧ dividend z s / s.a.toNat ≤ 255
  · exact ⟨_, _, if_pos h, fun _ _ => ⟨rfl, rfl⟩⟩
  · refine ⟨_, _, if_neg h, fun ha hq => absurd ⟨?_, hq⟩ h⟩
    exact fun h0 => ha (BitVec.eq_of_toNat_eq h0)

/-- A quotient and a remainder that fit a byte are what DIV leaves of them. -/
theorem quotient_remainder_of_bytes {n d : Nat} (hd : d < 256) (hpos : 0 < d) (hq : n / d ≤ 255) :
    n = (BitVec.ofNat 8 (n / d)).toNat * d + (255 - (~~~(BitVec.ofNat 8 (n % d))).toNat) ∧
      255 - (~~~(BitVec.ofNat 8 (n % d))).toNat < d := by
  have hrem : n % d < d := Nat.mod_lt n hpos
  have hquot : (BitVec.ofNat 8 (n / d)).toNat = n / d := by
    rw [BitVec.toNat_ofNat]; exact Nat.mod_eq_of_lt (by omega)
  have hpushed : 255 - (~~~(BitVec.ofNat 8 (n % d))).toNat = n % d := by
    rw [BitVec.toNat_not, BitVec.toNat_ofNat, Nat.mod_eq_of_lt (a := n % d) (by omega)]; omega
  rw [hquot, hpushed]
  exact ⟨(Nat.div_add_mod' n d).symm, hrem⟩

/-- Settles O26: the frame is that of one push in both cases of `divide`; the values are those of the division with
remainder. -/
theorem divLeavesQuotientAndRemainder : Obligations.DivLeavesQuotientAndRemainder := by
  intro z s
  obtain ⟨q, r, hdiv, hvalues⟩ := divide_cases z s
  have hexec : exec (.divZpX z) s = .next ((divide z s).advance (Instr.divZpX z).length) := rfl
  rw [hdiv] at hexec
  obtain ⟨t, hnext, ha, hstore, hsp, hx, hy, hps, hpc, hsteady⟩ := exec_setA_push hexec
  refine ⟨t, r, hnext, hstore, hsp, hx, hy, hps, hpc, hsteady, fun lo hi hlo hhi n hn hne hq => ?_⟩
  rw [← dividend_eq z s hlo hhi] at hn
  subst hn
  obtain ⟨hqe, hre⟩ := hvalues hne hq
  rw [ha, hqe, hre]
  exact quotient_remainder_of_bytes s.a.isLt (Nat.pos_of_ne_zero fun h0 => hne (BitVec.eq_of_toNat_eq h0)) hq

end Sys2Proof.Machine
end

section
/-! Control transfer, the flag instructions and the clock (spec/44_flag_instructions.md, spec/45_control_transfer.md,
spec/46_clock_control.md). -/

namespace Sys2Proof.Machine

/-- Settles O29: each is one write of PS and one of PC; with I = 1 nothing is acceptable, and BRK is the entry of
its vector in every state. -/
theorem flagInstructionsWriteOneFlag : Obligations.FlagInstructionsWriteOneFlag :=
  ⟨rfl, rfl, rfl, rfl, rfl, rfl, rfl, rfl, rfl, fun _ => ⟨rfl, rfl, rfl, rfl, rfl, rfl, rfl, rfl, rfl,
    State.nextInterrupt_masked _ rfl, ⟨_, rfl⟩⟩⟩

/-- Settles O37: each of the three advances PC, and the opcodes of FST and SLW are those of parts with P7. -/
theorem nopFstAndSlwOnlyPass : Obligations.NopFstAndSlwOnlyPass :=
  ⟨rfl, rfl, rfl, fun p => ⟨Iff.rfl, Iff.rfl, p.not_hasMulDiv_and_hasFstSlw,
    fun b1 b2 hWit => (decode_C2 p b1 b2).trans (if_pos hWit)⟩,
    fun _ => ⟨rfl, rfl, rfl, rfl, rfl, rfl, rfl, rfl, rfl⟩⟩

/-! Jumps (R260, R133, R134). -/

theorem exec_jmpInd_of_loByte_ne {a : Addr} (h : loByte a ≠ 0xFF#8) (s : State) :
    exec (.jmpInd a) s = .next (s.setPc (addrOf (s.read .pointerHi (a + 1#16)) (s.read .pointerLo a))) :=
  if_neg h

theorem exec_jmpInd_of_loByte_eq {a : Addr} (h : loByte a = 0xFF#8) (s : State) :
    exec (.jmpInd a) s =
      match s.cfg.jmpIndLastByte with
      | .refuse => .refused (.jmpIndirectAtPageEnd a)
      | .samePage => .next (jumpThrough a (addrOf (hiByte a) 0x00#8) s)
      | .nextPage => .next (jumpThrough a (a + 1#16) s) :=
  (if_pos h).trans rfl

/-- Settles O30: PC from the operand, or from the two bytes of the pointer. -/
theorem jmpGoesToItsTarget : Obligations.JmpGoesToItsTarget := by
  intro s
  refine ⟨fun a => rfl, fun a ha => ⟨_, exec_jmpInd_of_loByte_ne ?_ s, addrOf_toNat _ _⟩,
    fun z lo hi hlo hhi => ⟨_, rfl, s.zpPointer_toNat z hlo hhi⟩⟩
  intro hlast
  exact ha (by rw [← loByte_toNat, hlast]; rfl)

/-- Settles O31: the three values of P21. -/
theorem jmpIndirectAtPageEndFollowsThePlatform : Obligations.JmpIndirectAtPageEndFollowsThePlatform := by
  intro s a ha
  rw [exec_jmpInd_of_loByte_eq ha]
  exact ⟨fun h => by rw [h], fun h => by rw [h]; rfl, fun h => by rw [h]; rfl⟩

/-! Subroutines (R261, R262) and the return from an exception (R263). -/

theorem byte_sub_one_sub_one (v : Byte) : v - 1#8 - 1#8 = v - 2#8 := by bv_omega

/-- What two pushes do to memory. -/
theorem State.push_push_stores (s : State) (v w : Byte) :
    StoresTwo s ((s.push v).push w) s.stackAddr v (s.push v).stackAddr w := by
  intro b
  simp [State.byteAt_push, storedByte]

/-- All that a call does: two pushes and PC. -/
theorem call_spec (len : Nat) (target : State → Addr) (s : State) :
    ∃ ret s1 s2, ret = s.pc + BitVec.ofNat 16 len - 1#16 ∧ s1 = s.push (hiByte ret) ∧ s2 = s1.push (loByte ret) ∧
      StoresTwo s (call len target s) s.stackAddr (hiByte ret) s1.stackAddr (loByte ret) ∧
      (call len target s).sp = s.sp - 2#8 ∧ (call len target s).a = s.a ∧ (call len target s).x = s.x ∧
      (call len target s).y = s.y ∧ (call len target s).ps = s.ps ∧ Steady s (call len target s) ∧
      (call len target s).pc = target s2 :=
  ⟨_, _, _, rfl, rfl, rfl, s.push_push_stores _ _, byte_sub_one_sub_one s.sp, by simp, by simp, by simp, by simp,
    by simp [Steady], rfl⟩

/-- Settles O32: the three forms differ in the target of one call. -/
theorem jsrStacksItsLastByteAddress : Obligations.JsrStacksItsLastByteAddress := by
  intro i hi s
  have forms : (∃ a, i = .jsrAbs a) ∨ (∃ z, i = .jsrZpInd z) ∨ ∃ l, i = .jsrSp l := by
    cases i <;> first | (cases hi; done) | simp
  rcases forms with ⟨a, rfl⟩ | ⟨z, rfl⟩ | ⟨l, rfl⟩
  · obtain ⟨ret, s1, s2, hret, h1, h2, hstores, hsp, ha, hx, hy, hps, hsteady, hpc⟩ := call_spec 3 (fun _ => a) s
    refine ⟨_, ret, s1, s2, rfl, hret, h1, h2, hstores, hsp, ha, hx, hy, hps, hsteady, ?_, nofun, nofun⟩
    rintro _ ⟨⟩
    exact hpc
  · obtain ⟨ret, s1, s2, hret, h1, h2, hstores, hsp, ha, hx, hy, hps, hsteady, hpc⟩ :=
      call_spec 2 (fun t => t.zpPointer z) s
    refine ⟨_, ret, s1, s2, rfl, hret, h1, h2, hstores, hsp, ha, hx, hy, hps, hsteady, nofun, nofun, ?_⟩
    rintro _ lo hi ⟨⟩ hlo hhi
    exact (congrArg BitVec.toNat hpc).trans (s2.zpPointer_toNat z hlo hhi)
  · obtain ⟨ret, s1, s2, hret, h1, h2, hstores, hsp, ha, hx, hy, hps, hsteady, hpc⟩ :=
      call_spec 2 (fun t => addrOf t.cfg.specialPageHi l) s
    refine ⟨_, ret, s1, s2, rfl, hret, h1, h2, hstores, hsp, ha, hx, hy, hps, hsteady, nofun, ?_, nofun⟩
    rintro _ ⟨⟩
    subst h1 h2
    exact (congrArg BitVec.toNat hpc).trans (by simp [addrOf_toNat])

/-- All that RTS does, in terms of the two bytes above S. -/
theorem returnFromCall_eq (s : State) :
    returnFromCall s = (s.setSp (s.sp + 2#8)).setPc
      (addrOf (s.read .pull2 (addrOf s.stackPageHi (s.sp + 2#8)))
        (s.read .pull1 (addrOf s.stackPageHi (s.sp + 1#8))) + 1#16) := by
  have h2 : s.sp + 1#8 + 1#8 = s.sp + 2#8 := by bv_omega
  simp only [returnFromCall, State.pullByte_eq, State.pulled_read, State.pulled_stackPageHi, State.pulled_sp, h2]
  apply State.eq_of_fields <;> simp [h2]

/-- Settles O33: the bytes above S, as `returnFromCall_eq` and `returnFromException_eq` name them. -/
theorem rtsAndRtiPullTheirAddress : Obligations.RtsAndRtiPullTheirAddress := by
  intro s
  have hrts : exec .rts s = .next (returnFromCall s) := rfl
  have hrti : exec .rti s = .next s.returnFromException := rfl
  rw [returnFromCall_eq] at hrts
  rw [State.returnFromException_eq] at hrti
  refine ⟨⟨_, _, _, hrts, rfl, rfl, ?_, rfl, rfl, rfl, rfl, rfl, fun _ => rfl, ⟨rfl, rfl, rfl, rfl, rfl, rfl⟩⟩,
    ⟨_, _, _, _, hrti, rfl, rfl, rfl, rfl, addrOf_toNat _ _, rfl, rfl, rfl, rfl, fun _ => rfl,
      ⟨rfl, rfl, rfl, rfl, rfl, rfl⟩⟩⟩
  rw [State.setPc_pc, BitVec.toNat_add, addrOf_toNat]
  rfl

/-! Branches (R264 to R274). -/

/-- The signed offset is added to the next address modulo 2^16. -/
theorem State.branchTarget_eq (s : State) (len : Nat) (r : Byte) :
    s.branchTarget len r = BitVec.ofInt 16 ((s.pc + BitVec.ofNat 16 len).toNat + r.toInt) := by
  rw [BitVec.ofInt_add, BitVec.ofInt_natCast, BitVec.ofNat_toNat, BitVec.setWidth_eq]
  rfl

theorem State.branch_eq (s : State) (len : Nat) (taken : Bool) (r : Byte) :
    s.branch len taken r = s.setPc (if taken = true then
      BitVec.ofInt 16 ((s.pc + BitVec.ofNat 16 len).toNat + r.toInt) else s.pc + BitVec.ofNat 16 len) := by
  rw [State.branch, State.branchTarget_eq]
  rfl

/-- Settles O34: nine conditions of one `branch`. -/
theorem branchesTestOneFlag : Obligations.BranchesTestOneFlag := by
  intro s r
  simp only [← Bool.not_eq_true']
  exact ⟨congrArg _ (s.branch_eq 2 _ r), congrArg _ (s.branch_eq 2 _ r), congrArg _ (s.branch_eq 2 _ r),
    congrArg _ (s.branch_eq 2 _ r), congrArg _ (s.branch_eq 2 _ r), congrArg _ (s.branch_eq 2 _ r),
    congrArg _ (s.branch_eq 2 _ r), congrArg _ (s.branch_eq 2 _ r), congrArg _ (s.branch_eq 2 true r)⟩

/-- Settles O35: one `branch`, on the bit of the operand. -/
theorem bitBranchesTestOneBit : Obligations.BitBranchesTestOneBit := by
  rintro i (hi | hi)
  · obtain ⟨b, o, r, hb, hr, hexec⟩ := exec_bbc hi
    exact ⟨b, o, r, hb, hr, fun s => by simp [hexec s, State.branch_eq, testBit, hi]⟩
  · obtain ⟨b, o, r, hb, hr, hexec⟩ := exec_bbs hi
    exact ⟨b, o, r, hb, hr, fun s => by simp [hexec s, State.branch_eq, testBit, hi]⟩

end Sys2Proof.Machine
end

section
/-! Exceptions (spec/60_exceptions.md): interrupt entry, BRK, the acceptance of an interrupt, and the returns. -/

namespace Sys2Proof.Machine

/-- The vector is two bytes, the low one first (R70, R315). -/
theorem State.takeVector_pc_toNat (s : State) (vec : Addr) : (s.takeVector vec).pc.toNat =
    256 * ((s.takeVector vec).read .vectorHi (vec + 1#16)).toNat + ((s.takeVector vec).read .vectorLo vec).toNat := by
  rw [State.takeVector_pc, addrOf_toNat, State.takeVector_read, State.takeVector_read]

theorem byte_sub_one_three (v : Byte) : v - 1#8 - 1#8 - 1#8 = v - 3#8 := by bv_omega

/-! BRK (R275, R318, R333). -/

theorem exec_brk (s : State) : exec .brk s = .next s.enterBrk := rfl

theorem State.brkReturn_eq (s : State) :
    s.brkReturn = s.pc + (if s.cfg.brkOffset = .one then 1#16 else 2#16) := by
  rw [State.brkReturn]
  cases s.cfg.brkOffset <;> rfl

theorem State.brkBugHolds_eq_false (s : State) (h : s.cfg.part.brkBug = false ∨ s.ps.i = false) :
    s.brkBugHolds = false := by
  rw [State.brkBugHolds]
  rcases h with h | h <;> simp [h]

/-- With nothing unsettled or forced the BRK bug's condition reads the request bits as they are (R333). -/
theorem State.brkBugHolds_settled (s : State) (hfresh : s.window.fresh = []) (hforced : s.window.forced = []) :
    s.brkBugHolds = true ↔ s.cfg.part.brkBug = true ∧ s.ps.i = true ∧
      ∃ src ∈ s.cfg.sources, s.latch src.request = true ∧ s.latch src.enable = true := by
  rw [State.brkBugHolds_iff]
  simp only [s.requestSeen_settled _ _ hfresh hforced, List.mem_iff_getElem?]
  constructor
  · rintro ⟨hpart, hi, k, src, hk, hbits⟩
    exact ⟨hpart, hi, src, ⟨k, hk⟩, hbits⟩
  · rintro ⟨hpart, hi, src, ⟨k, hk⟩, hbits⟩
    exact ⟨hpart, hi, k, src, hk, hbits⟩

/-- Settles O36: the saved frame, the vector, and the condition of the BRK bug. -/
theorem brkEntersItsVector : Obligations.BrkEntersItsVector := by
  intro s
  refine ⟨s.enterBrk, s.brkReturn, s.ps.toByte true, _, _, exec_brk s, s.brkReturn_eq, rfl, ?bit, rfl, rfl,
    s.saveFrame_stores s.brkReturn true (!s.brkBugHolds), byte_sub_one_three s.sp, rfl, s.brkBugHolds_eq_false,
    s.brkBugHolds_settled, by simp, by simp, by simp, by simp [Steady], State.takeVector_pc_toNat _ _⟩
  case bit =>
    generalize s.ps = p
    obtain ⟨n, v, t, d, i, z, c⟩ := p
    revert n v t d i z c; decide

/-! Interrupt entry (R314 to R316, R327). -/

theorem State.acknowledge_leave {s : State} (src : IrqSource) (h : s.cfg.irqAck = .leave) :
    State.acknowledge src s = s := by
  rw [State.acknowledge, h]

theorem State.acknowledge_clear {s : State} (src : IrqSource) (h : s.cfg.irqAck = .clear) :
    State.acknowledge src s = s.setLatch src.request false := by
  rw [State.acknowledge, h]

theorem State.enterInterrupt_eq (s : State) (src : IrqSource) :
    s.enterInterrupt src = (State.acknowledge src (s.saveFrame s.pc false true)).takeVector src.vector := rfl

@[simp] theorem State.enterInterrupt_ps (s : State) (src : IrqSource) :
    (s.enterInterrupt src).ps = { s.ps with i := true } := by
  simp [State.enterInterrupt_eq]

@[simp] theorem State.enterInterrupt_sp (s : State) (src : IrqSource) : (s.enterInterrupt src).sp = s.sp - 3#8 := by
  simp [State.enterInterrupt_eq, byte_sub_one_three]

/-- Settles O53: the saved frame, then the acknowledge by the two values of P19, then the vector. -/
theorem interruptEntrySavesPcAndPs : Obligations.InterruptEntrySavesPcAndPs := by
  intro s src
  have hframe := s.saveFrame_stores s.pc false true
  refine ⟨s.enterInterrupt src, _, _, rfl, rfl, rfl, by simp, by simp, by simp, by simp, by simp, by simp [Steady],
    State.takeVector_pc_toNat _ _, fun hleave b => ?leave, fun hclear => ⟨?cleared, fun b hb => ?others⟩⟩
  case leave =>
    rw [State.enterInterrupt_eq, State.acknowledge_leave src (by simpa using hleave)]
    exact hframe b
  case cleared =>
    rw [State.enterInterrupt_eq, State.acknowledge_clear src (by simpa using hclear)]
    simp
  case others =>
    rw [State.enterInterrupt_eq, State.acknowledge_clear src (by simpa using hclear), State.takeVector_byteAt,
      State.byteAt_setLatch, if_neg hb]
    exact hframe b

/-- Settles O50: the frames that the two entries leave on a plain stack, and the weights of the bits of PS. -/
theorem breakFlagIsSetOnlyInBrksCopy : Obligations.BreakFlagIsSetOnlyInBrksCopy := by
  refine ⟨fun s src hplain hack => (State.enterInterrupt_frame hplain hack).2.2.1, fun s t hplain hexec => ?brk,
    PS.toByte_toNat, fun s t hplain hexec => ?php, by decide⟩
  case brk =>
    cases hexec
    exact (State.enterBrk_frame hplain).2.2.1
  case php =>
    cases hexec
    rw [State.advance_byteAt, State.byteAt_push_plain hplain, if_pos rfl]
    generalize s.ps = p
    obtain ⟨n, v, t, d, i, z, c⟩ := p
    revert n v t d i z c; decide

/-! Acceptance and priority (R311 to R317). -/

theorem State.nextInterrupt_eq_some_iff (s : State) (k : Nat) (src : IrqSource) :
    s.nextInterrupt = some (k, src) ↔ s.cfg.sources[k]? = some src ∧ s.acceptable k src = true ∧
      ∀ (j : Nat) (other : IrqSource), j < k → s.cfg.sources[j]? = some other → s.acceptable j other = false := by
  simpa [State.nextInterrupt] using firstSource_some s.acceptable s.cfg.sources 0 k src

theorem State.nextInterrupt_eq_none_iff (s : State) : s.nextInterrupt = none ↔
    ∀ (j : Nat) (other : IrqSource), s.cfg.sources[j]? = some other → s.acceptable j other = false := by
  simpa [State.nextInterrupt] using firstSource_none s.acceptable s.cfg.sources 0

/-- Settles O51: with nothing unsettled or forced the request is the bit itself. -/
theorem acceptanceNeedsRequestEnableAndI : Obligations.AcceptanceNeedsRequestEnableAndI := by
  refine ⟨fun s k src hfresh hforced => ?_, State.nextInterrupt_masked, fun s => ⟨_, exec_brk s⟩⟩
  simp [State.acceptable, s.requestSeen_settled k src hfresh hforced, and_assoc]

/-- The boundary of a running CPU at which the environment is quiet is the state itself, the script's entry taken. -/
theorem State.atBoundary_quiet {s : State} (hrun : s.run = .running) (hquiet : s.input = .quiet) :
    s.atBoundary.setRun .running = s.dropInput := by
  rw [State.atBoundary, hquiet, State.applyInput_none _ _ rfl]
  apply State.eq_of_fields <;> simp [hrun]

/-- Settles O52: the priority is the order of the list, and the step is the boundary's entry. -/
theorem highestPrioritySourceIsEntered : Obligations.HighestPrioritySourceIsEntered := by
  refine ⟨State.nextInterrupt_eq_some_iff, State.nextInterrupt_eq_none_iff, fun s k src hrun hquiet hnext => ?_⟩
  have hnext' : s.dropInput.nextInterrupt = some (k, src) := hnext
  rw [step_awake (by rw [hquiet]; rfl) (.inl hrun), State.atBoundary_quiet hrun hquiet, hquiet]
  rw [EnvInput.quiet, runBoundary_entry hnext', State.tickOn]
  congr 2
  simp

/-! Returns (R262, R263, R320). -/

/-- Settles O54: both entries leave on a plain stack the frame that RTI takes. -/
theorem rtiUndoesExceptionEntry : Obligations.RtiUndoesExceptionEntry := by
  refine ⟨fun s src hplain hack => ?interrupt, fun s hplain => ?brk⟩
  case interrupt =>
    obtain ⟨hpch, hpcl, hps, hpage⟩ := State.enterInterrupt_frame hplain hack
    obtain ⟨hpc, hflags, hsp⟩ := State.returnFromException_plain hplain (by simp) (by simp) hpage (by simp) hpch hpcl hps
    exact ⟨_, rfl, hpc, hflags, by simp, by simp, by simp, hsp⟩
  case brk =>
    obtain ⟨hpch, hpcl, hps, hpage⟩ := State.enterBrk_frame hplain
    obtain ⟨hpc, hflags, hsp⟩ := State.returnFromException_plain hplain (by simp) (by simp) hpage
      (byte_sub_one_three s.sp) hpch hpcl hps
    exact ⟨_, _, exec_brk s, rfl, hpc.trans s.brkReturn_eq, hflags, by simp, by simp, by simp, hsp⟩

/-- On a plain stack a call leaves its return address above S, on the same page. -/
theorem call_frame {len : Nat} {target : State → Addr} {s : State} (h : PlainStack 2 s) :
    (call len target s).byteAt (s.stackSlot 0) = hiByte (s.nextPc len - 1#16) ∧
    (call len target s).byteAt (s.stackSlot 1) = loByte (s.nextPc len - 1#16) ∧
    (call len target s).stackPageHi = s.stackPageHi := by
  have hbytes : ∀ b, (call len target s).byteAt b = ((s.push (hiByte (s.nextPc len - 1#16))).push
      (loByte (s.nextPc len - 1#16))).byteAt b := fun _ => rfl
  refine ⟨?hi, ?lo, ?page⟩
  case hi =>
    rw [hbytes, State.byteAt_push_push_plain h, if_neg (s.stackSlot_ne 0 1 (by omega) (by omega) (by omega)),
      if_pos rfl]
  case lo => rw [hbytes, State.byteAt_push_push_plain h, if_pos rfl]
  case page => exact (State.stackPageHi_push_plain (h.push _) _).trans (State.stackPageHi_push_plain h _)

/-- Returning from a call whose return address stands above S goes one past it, with S restored. -/
theorem returnFromCall_plain {s t : State} {ret : Addr} (h : PlainStack 2 s) (hc : t.cfg = s.cfg)
    (hw : t.window.fresh = s.window.fresh) (hp : t.stackPageHi = s.stackPageHi) (hsp : t.sp = s.sp - 2#8)
    (h0 : t.byteAt (s.stackSlot 0) = hiByte ret) (h1 : t.byteAt (s.stackSlot 1) = loByte ret) :
    (returnFromCall t).pc = ret + 1#16 ∧ (returnFromCall t).sp = s.sp := by
  have hlo : addrOf t.stackPageHi (t.sp + 1#8) = s.stackSlot 1 := by
    rw [hp, hsp, State.stackSlot, show s.sp - 2#8 + 1#8 = s.sp - 1#8 by bv_omega]
  have hhi : addrOf t.stackPageHi (t.sp + 2#8) = s.stackSlot 0 := by
    rw [hp, hsp, State.stackSlot, show s.sp - 2#8 + 2#8 = s.sp - BitVec.ofNat 8 0 by simp]
  rw [returnFromCall_eq, hlo, hhi, State.read_plain h hc hw 1 (by omega), State.read_plain h hc hw 0 (by omega),
    h0, h1, addrOf_hiByte_loByte, hsp]
  simp

/-- Settles O55: the return address that the call leaves is one before the next instruction. -/
theorem rtsUndoesJsr : Obligations.RtsUndoesJsr := by
  intro i s hi hplain
  obtain ⟨target, hexec⟩ := exec_jsr hi
  obtain ⟨hhi, hlo, hpage⟩ := call_frame (len := i.length) (target := target) hplain
  obtain ⟨hpc, hsp⟩ := returnFromCall_plain hplain (by simp) (by simp) hpage (byte_sub_one_sub_one s.sp) hhi hlo
  refine ⟨_, _, hexec s, rfl, hpc.trans ?_, by simp, by simp, by simp, by simp, hsp⟩
  exact BitVec.sub_add_cancel _ _

end Sys2Proof.Machine
end

section
/-! What holds of every instruction (spec/10_state.md, spec/60_exceptions.md section 1): that it completes, what it may
change, and where T and D matter. -/

namespace Sys2Proof.Machine

/-- JMP IND answers a next state, or refuses at a page end where P21 gives no behaviour. -/
theorem exec_jmpInd_cases (a : Addr) (s : State) :
    (∃ pc, exec (.jmpInd a) s = .next (s.setPc pc)) ∨
      (loByte a = 0xFF#8 ∧ s.cfg.jmpIndLastByte = .refuse ∧
        exec (.jmpInd a) s = .refused (.jmpIndirectAtPageEnd a)) := by
  by_cases h : loByte a = 0xFF#8
  · have hexec := exec_jmpInd_of_loByte_eq h s
    cases hp : s.cfg.jmpIndLastByte with
    | refuse => exact .inr ⟨h, rfl, by rw [hexec, hp]⟩
    | samePage => exact .inl ⟨_, by rw [hexec, hp]; rfl⟩
    | nextPage => exact .inl ⟨_, by rw [hexec, hp]; rfl⟩
  · exact .inl ⟨_, exec_jmpInd_of_loByte_ne h s⟩

/-- Where JMP IND goes on, it has changed PC alone. -/
theorem exec_jmpInd_next {a : Addr} {s t : State} (h : exec (.jmpInd a) s = .next t) : ∃ pc, t = s.setPc pc := by
  rcases exec_jmpInd_cases a s with ⟨pc, hpc⟩ | ⟨-, -, hrefused⟩
  · exact ⟨pc, by rw [hpc] at h; cases h; rfl⟩
  · rw [hrefused] at h; cases h

/-- Settles O44: every meaning but that of JMP IND is a next state by its definition. -/
theorem onlyJmpIndirectCanStop : Obligations.OnlyJmpIndirectCanStop := by
  intro i s
  cases i
  case jmpInd a =>
    rcases exec_jmpInd_cases a s with ⟨pc, hpc⟩ | ⟨hlast, hrefuse, hrefused⟩
    · exact .inl ⟨_, hpc⟩
    · exact .inr ⟨a, rfl, hlast, hrefuse, hrefused⟩
  all_goals exact .inl ⟨_, rfl⟩

/-! PC (R29). -/

theorem State.advance_pc_toNat (s : State) (n : Nat) : (s.advance n).pc.toNat = (s.pc.toNat + n) % 65536 := by
  rw [State.advance_pc, BitVec.toNat_add, BitVec.toNat_ofNat]
  omega

/-- Every relative branch and bit branch is one `branch`; its condition is that of the table, but for BRA. -/
theorem exec_branch {i : Instr} {r : Byte} (h : i.offset? = some r) (s : State) :
    ∃ taken, exec i s = .next (s.branch i.length taken r) ∧ (i.mnemonic ≠ .bra → taken = i.branchTaken s) := by
  cases i
  case bra => cases h; exact ⟨true, rfl, fun hbra => absurd rfl hbra⟩
  all_goals first | (cases h; done) | exact ⟨_, by cases h; rfl, fun _ => rfl⟩

theorem exec_pc {i : Instr} {s t : State} (h : exec i s = .next t)
    (hi : i.mnemonic ∉ [.jmp, .jsr, .rts, .rti, .brk]) (ho : i.offset? = none) :
    t.pc = (s.advance i.length).pc := by
  cases i
  case jmpAbs | jmpInd | jmpZpInd | jsrAbs | jsrZpInd | jsrSp | rts | rti | brk => exact absurd (by simp [Instr.mnemonic]) hi
  case bcc | bcs | beq | bne | bmi | bpl | bvc | bvs | bra | bbcA | bbcZp | bbsA | bbsZp => cases ho
  all_goals
    cases h
    simp
    rfl

/-- Settles O48: PC is that of `advance`, in a branch that is not taken too. -/
theorem pcAdvancesByTheLength : Obligations.PcAdvancesByTheLength := by
  intro i s t h
  refine ⟨fun hi ho => ?_, fun ho hbra hnot => ?_⟩
  · rw [exec_pc h hi ho, State.advance_pc_toNat]
  · obtain ⟨r, hr⟩ := Option.ne_none_iff_exists'.mp ho
    obtain ⟨taken, hexec, htaken⟩ := exec_branch hr s
    rw [htaken hbra, hnot] at hexec
    rw [hexec] at h
    cases h
    exact s.advance_pc_toNat i.length

/-! The flags (R39). -/

theorem PS.merge_self (w p : PS) : PS.merge w p p = p := by
  simp [PS.merge]

theorem addWithCarry_merge (tick : Nat) (a m : Byte) (p : PS) :
    (addWithCarry tick a m p).2 = PS.merge Mnemonic.adc.flagsWritten (addWithCarry tick a m p).2 p := by
  unfold addWithCarry addDecimal
  split
  · split <;> rfl
  · rfl

theorem subWithCarry_merge (tick : Nat) (a m : Byte) (p : PS) :
    (subWithCarry tick a m p).2 = PS.merge Mnemonic.sbc.flagsWritten (subWithCarry tick a m p).2 p := by
  unfold subWithCarry subDecimal
  split
  · split <;> rfl
  · rfl

/-- An instruction writes the flags of its row of the table, and keeps the others. -/
theorem exec_ps {i : Instr} {s t : State} (h : exec i s = .next t) :
    t.ps = PS.merge i.mnemonic.flagsWritten t.ps s.ps := by
  have unchanged : t.ps = s.ps → t.ps = PS.merge i.mnemonic.flagsWritten t.ps s.ps := fun hps => by
    rw [hps, PS.merge_self]
  cases i
  case jmpInd a =>
    obtain ⟨pc, rfl⟩ := exec_jmpInd_next h
    rfl
  case staZp | staZpX | staAbs | staAbsX | staAbsY | staIndX | staIndY | stxZp | stxZpY | stxAbs | styZp | styZpX
      | styAbs | ldm | pha | php | mulZpX | divZpX | jsrAbs | jsrZpInd | jsrSp =>
    cases h
    exact unchanged (by simp)
  case adcImm | adcZp | adcZpX | adcAbs | adcAbsX | adcAbsY | adcIndX | adcIndY =>
    cases h
    exact addWithCarry_merge _ _ _ _
  case sbcImm | sbcZp | sbcZpX | sbcAbs | sbcAbsX | sbcAbsY | sbcIndX | sbcIndY =>
    cases h
    exact subWithCarry_merge _ _ _ _
  all_goals
    cases h
    rfl

/-- Settles O45: flag by flag, what `exec_ps` says. -/
theorem flagsOutsideTheTableAreUnchanged : Obligations.FlagsOutsideTheTableAreUnchanged := by
  intro i s t h
  have hps := exec_ps h
  rw [hps]
  refine ⟨?_, ?_, ?_, ?_, ?_, ?_, ?_⟩ <;> exact fun hw => if_neg (by simp [hw])

/-! The registers (R21 to R23). -/

theorem exec_x {i : Instr} {s t : State} (h : exec i s = .next t) :
    i.mnemonic ∈ [.ldx, .tax, .tsx, .inx, .dex] ∨ t.x = s.x := by
  cases i
  case jmpInd a =>
    obtain ⟨pc, rfl⟩ := exec_jmpInd_next h
    exact .inr rfl
  all_goals
    cases h
    simp [Instr.mnemonic]

theorem exec_y {i : Instr} {s t : State} (h : exec i s = .next t) :
    i.mnemonic ∈ [.ldy, .tay, .iny, .dey] ∨ t.y = s.y := by
  cases i
  case jmpInd a =>
    obtain ⟨pc, rfl⟩ := exec_jmpInd_next h
    exact .inr rfl
  all_goals
    cases h
    simp [Instr.mnemonic]

theorem exec_sp {i : Instr} {s t : State} (h : exec i s = .next t) :
    i.mnemonic ∈ [.txs, .jsr, .brk, .pha, .php, .mul, .div, .rts, .rti, .pla, .plp] ∨ t.sp = s.sp := by
  cases i
  case jmpInd a =>
    obtain ⟨pc, rfl⟩ := exec_jmpInd_next h
    exact .inr rfl
  all_goals
    cases h
    simp [Instr.mnemonic]

/-- With T = 1 the result of a T-sensitive instruction is not in A (R201). -/
theorem aluOp_a (f : Byte → Byte → PS → Byte × PS) (o : Operand) (s : State) :
    s.ps.t = false ∨ (aluOp f o s).a = s.a := by
  cases ht : s.ps.t
  · exact .inl rfl
  · exact .inr ((s.accOut_spec _).2 ht).1

/-- Only the accumulator form of a read-modify-write instruction writes A (R122). -/
theorem readModifyWrite_mem_a (f : Byte → PS → Byte × PS) (m : MemOperand) (s : State) :
    (readModifyWrite f (.mem m) s).a = s.a := by
  simp [readModifyWrite, Operand.put]

theorem exec_a {i : Instr} {s t : State} (h : exec i s = .next t) :
    (i.mnemonic ∈ [.lda, .adc, .sbc, .and, .ora, .eor] ∧ s.ps.t = false) ∨
      (i.mnemonic ∈ [.asl, .lsr, .rol, .ror, .inc, .dec] ∧ i.operand? = some .acc) ∨
      (i.mnemonic ∈ [.clb, .seb] ∧ ∃ b, i.bitOperand? = some (b, .acc)) ∨
      i.mnemonic ∈ [.txa, .tya, .pla, .mul, .div] ∨ t.a = s.a := by
  cases i
  case jmpInd a =>
    obtain ⟨pc, rfl⟩ := exec_jmpInd_next h
    simp
  all_goals
    cases h
    simp [Instr.mnemonic, Instr.operand?, Instr.bitOperand?, aluOp_a, loadA_eq_aluOp, readModifyWrite_mem_a]

/-- Settles O46: one lemma per register. -/
theorem onlyListedInstructionsWriteARegister : Obligations.OnlyListedInstructionsWriteARegister := by
  intro i s t h
  refine ⟨fun ha => ?_, fun hx => (exec_x h).resolve_right hx, fun hy => (exec_y h).resolve_right hy,
    fun hsp => (exec_sp h).resolve_right hsp⟩
  simpa [ha] using exec_a h

/-! Memory (R73, R201). -/

theorem aluOp_mem (f : Byte → Byte → PS → Byte × PS) (o : Operand) (s : State) :
    s.ps.t = true ∨ (aluOp f o s).mem = s.mem := by
  cases ht : s.ps.t <;> simp [aluOp, State.accOut, ht]

theorem readModifyWrite_acc_mem (f : Byte → PS → Byte × PS) (s : State) : (readModifyWrite f .acc s).mem = s.mem := rfl

theorem exec_mem {i : Instr} {s t : State} (h : exec i s = .next t) :
    i.mnemonic ∈ [.sta, .stx, .sty, .ldm, .pha, .php, .mul, .div, .jsr, .brk] ∨
      (i.mnemonic ∈ [.asl, .lsr, .rol, .ror, .inc, .dec, .com, .rrf] ∧ ∃ m, i.operand? = some (.mem m)) ∨
      (i.mnemonic ∈ [.clb, .seb] ∧ ∃ k m, i.bitOperand? = some (k, .mem m)) ∨
      (i.mnemonic ∈ [.lda, .adc, .sbc, .and, .ora, .eor] ∧ s.ps.t = true) ∨ t.mem = s.mem := by
  cases i
  case jmpInd a =>
    obtain ⟨pc, rfl⟩ := exec_jmpInd_next h
    simp
  all_goals
    cases h
    simp [Instr.mnemonic, Instr.operand?, Instr.bitOperand?, aluOp_mem, loadA_eq_aluOp, readModifyWrite_acc_mem]

/-- Settles O47: memory is the same list but in the cases of `exec_mem`. -/
theorem onlyStoringFormsChangeMemory : Obligations.OnlyStoringFormsChangeMemory := by
  intro i s t b h hb
  have hmem : t.mem ≠ s.mem := fun hmem => hb (by rw [State.byteAt, hmem, State.byteAt])
  simpa [hmem] using exec_mem h

end Sys2Proof.Machine
end

section
/-! Where the flags T and D matter (spec/10_state.md section 3). -/

namespace Sys2Proof.Machine

/-! No operation but a push of PS and the second operand of T looks at PS. -/

theorem State.write_setPs (s : State) (p : PS) (a : Addr) (v : Byte) :
    (s.setPs p).write a v = (s.write a v).setPs p := by
  unfold State.write
  rw [State.setPs_writable]
  split <;> rfl

theorem State.push_setPs (s : State) (p : PS) (v : Byte) : (s.setPs p).push v = (s.push v).setPs p := by
  simp only [State.push, show (s.setPs p).stackAddr = s.stackAddr from rfl, State.write_setPs]
  rfl

theorem Operand.put_setPs (o : Operand) (r : Byte) (s : State) (p : PS) : o.put r (s.setPs p) = (o.put r s).setPs p := by
  cases o with
  | imm v => rfl
  | acc => rfl
  | mem m => exact s.write_setPs p (m.ea s) r

theorem readModifyWrite_setPs (f : Byte → PS → Byte × PS) (o : Operand) (s : State) (p : PS) :
    readModifyWrite f o (s.setPs p) = (o.put (f (o.value s) p).1 s).setPs (f (o.value s) p).2 := by
  rw [readModifyWrite, Operand.put_setPs]
  rfl

theorem multiply_setPs (z : Byte) (s : State) (p : PS) : multiply z (s.setPs p) = (multiply z s).setPs p :=
  (s.setA _).push_setPs p _

theorem divide_setPs (z : Byte) (s : State) (p : PS) : divide z (s.setPs p) = (divide z s).setPs p := by
  by_cases h : s.a.toNat ≠ 0 ∧ dividend z s / s.a.toNat ≤ 255
  · rw [show divide z s = _ from if_pos h, show divide z (s.setPs p) = _ from if_pos h]
    exact (s.setA _).push_setPs p _
  · rw [show divide z s = _ from if_neg h, show divide z (s.setPs p) = _ from if_neg h]
    exact (s.setA _).push_setPs p _

theorem call_setPs (len : Nat) {target : State → Addr} (ht : ∀ s p, target (s.setPs p) = target s) (s : State) (p : PS) :
    call len target (s.setPs p) = (call len target s).setPs p := by
  simp only [call, State.push_setPs, ht]
  rfl

theorem accOut_setPs {s : State} {p : PS} (hp : p.t = s.ps.t) (r : Byte) :
    (s.setPs p).accOut r = (s.accOut r).setPs p := by
  unfold State.accOut
  rw [State.setPs_ps, hp]
  split
  · exact s.write_setPs p _ r
  · rfl

theorem accIn_setPs {s : State} {p : PS} (hp : p.t = s.ps.t) : (s.setPs p).accIn = s.accIn := by
  unfold State.accIn
  rw [State.setPs_ps, hp]
  rfl

/-- With the same T a T-sensitive instruction looks at the other flags through its function alone. -/
theorem aluOp_setPs (f : Byte → Byte → PS → Byte × PS) (o : Operand) {s : State} {p : PS} (hp : p.t = s.ps.t) :
    aluOp f o (s.setPs p) =
      (s.accOut (f s.accIn (o.value s) p).1).setPs (f s.accIn (o.value s) p).2 := by
  rw [aluOp, accIn_setPs hp, accOut_setPs hp]
  rfl

/-- The instructions of these mnemonics have one form each. -/
theorem oneForm_cases {i : Instr} (h : i.mnemonic ∈ [.ldm, .pha, .mul, .div]) :
    (∃ v z, i = .ldm v z) ∨ i = .pha ∨ (∃ z, i = .mulZpX z) ∨ ∃ z, i = .divZpX z := by
  cases i <;> first | (simp [Instr.mnemonic] at h; done) | simp

/-- Nothing but PC is looked at or written after the advance. -/
theorem next_advance_setPs {u v : State} {p : PS} (h : u = v.setPs p) (n : Nat) :
    Host.Outcome.next (φ := Fault) (ρ := Refusal) (u.advance n) = .next ((v.advance n).setPs p) := by
  rw [h]
  rfl

/-- JSR stacks PC whatever PS is; its three targets are the operand, a zero-page pointer and a special-page address. -/
theorem exec_jsr_setPs {i : Instr} (hi : i.mnemonic = .jsr) {s t : State} (h : exec i s = .next t) (p : PS) :
    t.ps = s.ps ∧ exec i (s.setPs p) = .next (t.setPs p) := by
  cases i <;> cases hi <;> cases h <;>
    exact ⟨by simp, congrArg _ (call_setPs _ (fun _ _ => rfl) s p)⟩

/-- The instructions that store or push without a look at PS do the same whatever PS is, and keep it. -/
theorem exec_setPs_of_blind {i : Instr} {s t : State}
    (hi : i.mnemonic ∈ [.ldm, .pha, .mul, .div] ∨ i.mnemonic = .sta ∨ i.mnemonic = .stx ∨ i.mnemonic = .sty ∨
      i.mnemonic = .jsr)
    (h : exec i s = .next t) (p : PS) : t.ps = s.ps ∧ exec i (s.setPs p) = .next (t.setPs p) := by
  rcases hi with hi | hi | hi | hi | hi
  · rcases oneForm_cases hi with ⟨v, z, rfl⟩ | rfl | ⟨z, rfl⟩ | ⟨z, rfl⟩ <;> cases h
    · exact ⟨by simp, next_advance_setPs (s.write_setPs p _ _) 3⟩
    · exact ⟨by simp, next_advance_setPs (s.push_setPs p _) 1⟩
    · exact ⟨by simp, next_advance_setPs (multiply_setPs z s p) 2⟩
    · exact ⟨by simp, next_advance_setPs (divide_setPs z s p) 2⟩
  · obtain ⟨m, -, hexec⟩ := exec_sta hi
    rw [hexec] at h ⊢
    cases h
    exact ⟨by simp, next_advance_setPs (s.write_setPs p _ _) _⟩
  · obtain ⟨m, -, hexec⟩ := exec_stx hi
    rw [hexec] at h ⊢
    cases h
    exact ⟨by simp, next_advance_setPs (s.write_setPs p _ _) _⟩
  · obtain ⟨m, -, hexec⟩ := exec_sty hi
    rw [hexec] at h ⊢
    cases h
    exact ⟨by simp, next_advance_setPs (s.write_setPs p _ _) _⟩
  · exact exec_jsr_setPs hi h p

/-! T and D are two cases of one argument: the update of one flag, which no other operation looks at. -/

def PS.setT (b : Bool) (p : PS) : PS := { p with t := b }

def PS.setD (b : Bool) (p : PS) : PS := { p with d := b }

def SetsTOrD (u : Bool → PS → PS) : Prop := u = PS.setT ∨ u = PS.setD

/-- Starting with another value of the flag gives the same next state but for the flag itself. -/
def SameButForFlag (u : Bool → PS → PS) (i : Instr) (s t : State) (b : Bool) : Prop :=
  ∃ f : Bool, exec i (s.setPs (u b s.ps)) = .next (t.setPs (u f t.ps))

theorem sameButForFlag_of_blind {u : Bool → PS → PS} {i : Instr} {s t : State} (b : Bool)
    (h : ∀ p, t.ps = s.ps ∧ exec i (s.setPs p) = .next (t.setPs p)) : SameButForFlag u i s t b :=
  ⟨b, by rw [(h s.ps).1]; exact (h _).2⟩

/-- A read-modify-write instruction commutes with the update: its function reads and writes other flags. -/
theorem exec_readModifyWrite_of_mnemonic {i : Instr}
    (hi : i.mnemonic ∈ [.inc, .dec, .com, .rrf, .asl, .lsr, .rol, .ror, .clb, .seb]) :
    ∃ f o, (∀ s, exec i s = .next ((readModifyWrite f o s).advance i.length)) ∧
      ∀ u, SetsTOrD u → ∀ v b p, f v (u b p) = ((f v p).1, u b (f v p).2) := by
  simp only [List.mem_cons, List.not_mem_nil, or_false] at hi
  rcases hi with hi | hi | hi | hi | hi | hi | hi | hi | hi | hi
  · obtain ⟨o, -, -, hexec⟩ := exec_inc hi
    exact ⟨_, o, hexec, by rintro _ (rfl | rfl) _ _ _ <;> rfl⟩
  · obtain ⟨o, -, -, hexec⟩ := exec_dec hi
    exact ⟨_, o, hexec, by rintro _ (rfl | rfl) _ _ _ <;> rfl⟩
  · obtain ⟨o, -, -, hexec⟩ := exec_com hi
    exact ⟨_, _, hexec, by rintro _ (rfl | rfl) _ _ _ <;> rfl⟩
  · obtain ⟨o, -, -, hexec⟩ := exec_rrf hi
    exact ⟨_, _, hexec, by rintro _ (rfl | rfl) _ _ _ <;> rfl⟩
  · obtain ⟨o, -, -, hexec⟩ := exec_asl hi
    exact ⟨_, o, hexec, by rintro _ (rfl | rfl) _ _ _ <;> rfl⟩
  · obtain ⟨o, -, -, hexec⟩ := exec_lsr hi
    exact ⟨_, o, hexec, by rintro _ (rfl | rfl) _ _ _ <;> rfl⟩
  · obtain ⟨o, -, -, hexec⟩ := exec_rol hi
    exact ⟨_, o, hexec, by rintro _ (rfl | rfl) _ _ _ <;> rfl⟩
  · obtain ⟨o, -, -, hexec⟩ := exec_ror hi
    exact ⟨_, o, hexec, by rintro _ (rfl | rfl) _ _ _ <;> rfl⟩
  · obtain ⟨k, o, -, -, hexec⟩ := exec_clb hi
    exact ⟨_, o, hexec, by rintro _ (rfl | rfl) _ _ _ <;> rfl⟩
  · obtain ⟨k, o, -, -, hexec⟩ := exec_seb hi
    exact ⟨_, o, hexec, by rintro _ (rfl | rfl) _ _ _ <;> rfl⟩

theorem sameButForFlag_of_readModifyWrite {u : Bool → PS → PS} (hu : SetsTOrD u) {i : Instr} {s t : State} (b : Bool)
    (hi : i.mnemonic ∈ [.inc, .dec, .com, .rrf, .asl, .lsr, .rol, .ror, .clb, .seb]) (h : exec i s = .next t) :
    SameButForFlag u i s t b := by
  obtain ⟨f, o, hexec, hf⟩ := exec_readModifyWrite_of_mnemonic hi
  rw [hexec] at h
  cases h
  refine ⟨b, ?_⟩
  rw [hexec, readModifyWrite_setPs, hf u hu]
  rfl

/-- LDA, AND, ORA and EOR put what they compute where T says; D they do not look at. -/
theorem exec_aluOp_of_mnemonic {i : Instr} (hi : i.mnemonic ∈ [.lda, .and, .ora, .eor]) :
    ∃ f o, (∀ s, exec i s = .next ((aluOp f o s).advance i.length)) ∧
      ∀ a m b p, f a m (PS.setD b p) = ((f a m p).1, PS.setD b (f a m p).2) := by
  simp only [List.mem_cons, List.not_mem_nil, or_false] at hi
  rcases hi with hi | hi | hi | hi
  · obtain ⟨o, -, hexec⟩ := exec_lda hi
    exact ⟨_, o, fun s => (hexec s).trans (by rw [loadA_eq_aluOp]), fun _ _ _ _ => rfl⟩
  · obtain ⟨o, -, hexec⟩ := exec_and hi
    exact ⟨_, o, hexec, fun _ _ _ _ => rfl⟩
  · obtain ⟨o, -, hexec⟩ := exec_ora hi
    exact ⟨_, o, hexec, fun _ _ _ _ => rfl⟩
  · obtain ⟨o, -, hexec⟩ := exec_eor hi
    exact ⟨_, o, hexec, fun _ _ _ _ => rfl⟩

theorem sameButForD_of_aluOp {i : Instr} {s t : State} (b : Bool) (hi : i.mnemonic ∈ [.lda, .and, .ora, .eor])
    (h : exec i s = .next t) : SameButForFlag PS.setD i s t b := by
  obtain ⟨f, o, hexec, hf⟩ := exec_aluOp_of_mnemonic hi
  rw [hexec] at h
  cases h
  refine ⟨b, ?_⟩
  rw [hexec, aluOp_setPs f o (show (PS.setD b s.ps).t = s.ps.t from rfl), hf]
  rfl

theorem sameButForD_of_cmp {i : Instr} {s t : State} (b : Bool) (hi : i.mnemonic = .cmp) (h : exec i s = .next t) :
    SameButForFlag PS.setD i s t b := by
  obtain ⟨o, -, hexec⟩ := exec_cmp hi
  rw [hexec] at h
  cases h
  exact ⟨b, hexec _⟩

/-- The rest writes registers and flags alone, from operands that do not depend on PS. -/
theorem sameButForFlag_of_register {u : Bool → PS → PS} (hu : SetsTOrD u) {i : Instr} {s t : State} (b : Bool)
    (hi : i.mnemonic ∈ [.ldx, .ldy, .cpx, .cpy, .bit, .tst, .bbc, .bbs]) (h : exec i s = .next t) :
    SameButForFlag u i s t b := by
  simp only [List.mem_cons, List.not_mem_nil, or_false] at hi
  rcases hi with hi | hi | hi | hi | hi | hi | hi | hi
  · obtain ⟨o, -, hexec⟩ := exec_ldx hi
    rw [hexec] at h
    cases h
    rcases hu with rfl | rfl <;> exact ⟨b, hexec _⟩
  · obtain ⟨o, -, hexec⟩ := exec_ldy hi
    rw [hexec] at h
    cases h
    rcases hu with rfl | rfl <;> exact ⟨b, hexec _⟩
  · obtain ⟨o, -, hexec⟩ := exec_cpx hi
    rw [hexec] at h
    cases h
    rcases hu with rfl | rfl <;> exact ⟨b, hexec _⟩
  · obtain ⟨o, -, hexec⟩ := exec_cpy hi
    rw [hexec] at h
    cases h
    rcases hu with rfl | rfl <;> exact ⟨b, hexec _⟩
  · obtain ⟨o, -, hexec⟩ := exec_bit hi
    rw [hexec] at h
    cases h
    rcases hu with rfl | rfl <;> exact ⟨b, hexec _⟩
  · obtain ⟨o, -, hexec⟩ := exec_tst hi
    rw [hexec] at h
    cases h
    rcases hu with rfl | rfl <;> exact ⟨b, hexec _⟩
  · obtain ⟨k, o, r, -, -, hexec⟩ := exec_bbc hi
    rw [hexec] at h
    cases h
    rcases hu with rfl | rfl <;> exact ⟨b, hexec _⟩
  · obtain ⟨k, o, r, -, -, hexec⟩ := exec_bbs hi
    rw [hexec] at h
    cases h
    rcases hu with rfl | rfl <;> exact ⟨b, hexec _⟩

theorem exec_jmpInd_setPs (a : Addr) {s t : State} (h : exec (.jmpInd a) s = .next t) (p : PS) :
    t.ps = s.ps ∧ exec (.jmpInd a) (s.setPs p) = .next (t.setPs p) := by
  by_cases hlo : loByte a = 0xFF#8
  · rw [exec_jmpInd_of_loByte_eq hlo] at h ⊢
    rw [State.setPs_cfg]
    cases hp : s.cfg.jmpIndLastByte <;> rw [hp] at h <;> cases h <;> exact ⟨rfl, rfl⟩
  · rw [exec_jmpInd_of_loByte_ne hlo] at h ⊢
    cases h
    exact ⟨rfl, rfl⟩

/-- Each of the others has one form. -/
theorem sameButForFlag_of_oneForm {u : Bool → PS → PS} (hu : SetsTOrD u) {i : Instr} {s t : State} (b : Bool)
    (hi : i ∈ [.tax, .tay, .tsx, .txa, .txs, .tya, .inx, .iny, .dex, .dey, .nop, .clc, .sec, .cli, .sei, .clv, .pla,
      .rts, .fst, .slw, .stp, .wit])
    (h : exec i s = .next t) : SameButForFlag u i s t b := by
  simp only [List.mem_cons, List.not_mem_nil, or_false] at hi
  rcases hi with rfl | rfl | rfl | rfl | rfl | rfl | rfl | rfl | rfl | rfl | rfl | rfl | rfl | rfl | rfl | rfl | rfl
    | rfl | rfl | rfl | rfl | rfl
  all_goals
    cases h
    rcases hu with rfl | rfl <;> exact ⟨b, rfl⟩

/-- The jumps and branches change PC alone; what decides a branch is another flag or a bit of the operand. -/
theorem sameButForFlag_of_jump {u : Bool → PS → PS} (hu : SetsTOrD u) {i : Instr} {s t : State} (b : Bool)
    (hi : (∃ a, i = .jmpAbs a) ∨ (∃ a, i = .jmpInd a) ∨ (∃ z, i = .jmpZpInd z) ∨
      ∃ r, i ∈ [.bcc r, .bcs r, .beq r, .bne r, .bmi r, .bpl r, .bvc r, .bvs r, .bra r])
    (h : exec i s = .next t) : SameButForFlag u i s t b := by
  rcases hi with ⟨a, rfl⟩ | ⟨a, rfl⟩ | ⟨z, rfl⟩ | ⟨r, hi⟩
  · cases h
    exact ⟨b, rfl⟩
  · exact sameButForFlag_of_blind b (exec_jmpInd_setPs a h)
  · cases h
    exact ⟨b, rfl⟩
  · simp only [List.mem_cons, List.not_mem_nil, or_false] at hi
    rcases hi with rfl | rfl | rfl | rfl | rfl | rfl | rfl | rfl | rfl
    all_goals
      cases h
      rcases hu with rfl | rfl <;> exact ⟨b, rfl⟩

/-- What is written to the flag does not depend on what it was: PLP and RTI pull it, four instructions set or clear
T or D. -/
theorem sameButForFlag_of_writer {u : Bool → PS → PS} (hu : SetsTOrD u) {i : Instr} {s t : State} (b : Bool)
    (hi : i ∈ [.plp, .rti, .clt, .set, .cld, .sed]) (h : exec i s = .next t) : SameButForFlag u i s t b := by
  simp only [List.mem_cons, List.not_mem_nil, or_false] at hi
  rcases hu with rfl | rfl
  · rcases hi with rfl | rfl | rfl | rfl | rfl | rfl <;> cases h
    · exact ⟨(PS.ofByte (s.pullByte .pull1)).t, rfl⟩
    · exact ⟨(PS.ofByte (s.pullByte .pull1)).t, rfl⟩
    · exact ⟨false, rfl⟩
    · exact ⟨true, rfl⟩
    · exact ⟨b, rfl⟩
    · exact ⟨b, rfl⟩
  · rcases hi with rfl | rfl | rfl | rfl | rfl | rfl <;> cases h
    · exact ⟨(PS.ofByte (s.pullByte .pull1)).d, rfl⟩
    · exact ⟨(PS.ofByte (s.pullByte .pull1)).d, rfl⟩
    · exact ⟨b, rfl⟩
    · exact ⟨b, rfl⟩
    · exact ⟨false, rfl⟩
    · exact ⟨true, rfl⟩

/-- Neither T nor D matters to an instruction without T-sensitive operand that pushes no PS. -/
theorem exec_sameButForFlag {u : Bool → PS → PS} (hu : SetsTOrD u) {i : Instr} {s t : State} (b : Bool)
    (hi : i.mnemonic ∉ [.adc, .and, .cmp, .eor, .lda, .ora, .sbc, .php, .brk]) (h : exec i s = .next t) :
    SameButForFlag u i s t b := by
  by_cases hrmw : i.mnemonic ∈ [.inc, .dec, .com, .rrf, .asl, .lsr, .rol, .ror, .clb, .seb]
  · exact sameButForFlag_of_readModifyWrite hu b hrmw h
  by_cases hblind : i.mnemonic ∈ [.ldm, .pha, .mul, .div] ∨ i.mnemonic = .sta ∨ i.mnemonic = .stx ∨ i.mnemonic = .sty ∨
      i.mnemonic = .jsr
  · exact sameButForFlag_of_blind b (exec_setPs_of_blind hblind h)
  by_cases hregister : i.mnemonic ∈ [.ldx, .ldy, .cpx, .cpy, .bit, .tst, .bbc, .bbs]
  · exact sameButForFlag_of_register hu b hregister h
  cases i
  case tax | tay | tsx | txa | txs | tya | inx | iny | dex | dey | nop | clc | sec | cli | sei | clv | pla | rts | fst
      | slw | stp | wit => exact sameButForFlag_of_oneForm hu b (by simp) h
  case jmpAbs | jmpInd | jmpZpInd | bcc | bcs | beq | bne | bmi | bpl | bvc | bvs | bra =>
    exact sameButForFlag_of_jump hu b (by simp) h
  case plp | rti | clt | set | cld | sed => exact sameButForFlag_of_writer hu b (by simp) h
  all_goals simp [Instr.mnemonic] at hi hrmw hblind hregister

/-- Settles O49: T by `exec_sameButForFlag`; D likewise, and with the same T the T-sensitive instructions but ADC and
SBC do the same. -/
theorem tAndDMatterOnlyWhereListed : Obligations.TAndDMatterOnlyWhereListed := by
  refine ⟨fun i s t b hi h => exec_sameButForFlag (.inl rfl) b hi h, fun i s t b hi h => ?_⟩
  by_cases halu : i.mnemonic ∈ [.lda, .and, .ora, .eor]
  · exact sameButForD_of_aluOp b halu h
  by_cases hcmp : i.mnemonic = .cmp
  · exact sameButForD_of_cmp b hcmp h
  refine exec_sameButForFlag (.inr rfl) b ?_ h
  simp only [List.mem_cons, List.not_mem_nil, or_false, not_or] at hi halu ⊢
  tauto

end Sys2Proof.Machine
end

section
/-! The step function (spec/00_scope.md section 4, spec/46_clock_control.md) and the reset state. -/

namespace Sys2Proof.Machine

/-- Settles O5: each row of the decoder's table at the bytes of the source's example. -/
theorem sourceExampleBytesDecode : Obligations.SourceExampleBytesDecode :=
  ⟨rfl, rfl, rfl, rfl, rfl, rfl, rfl, rfl, rfl, rfl, rfl, rfl, rfl, rfl, rfl, rfl, rfl, rfl, rfl⟩

/-- Settles O43: none of the four things that a step can do touches the three fields but to take the script's entry and
to count the step. -/
theorem stepKeepsTheParameters : Obligations.StepKeepsTheParameters := by
  intro s t h
  rcases step_cases h with ⟨-, rfl⟩ | ⟨-, -, rfl⟩ | ⟨-, -, -, k, src, -, rfl⟩ | ⟨-, -, -, i, u, -, hexec, rfl⟩
  · simp
  · simp
  · simp
  · obtain ⟨-, htick, hscript, hcfg, -, -⟩ := exec_keeps _ _ _ hexec
    simp [htick, hscript, hcfg]

/-- Settles O41: I = 1 in the reset state, and its empty memory reads as the bytes of BRK. -/
theorem resetHoldsItsValues : Obligations.ResetHoldsItsValues :=
  have masked : State.reset.nextInterrupt = none := State.reset.nextInterrupt_masked rfl
  ⟨rfl, rfl, rfl, rfl, masked, .brk, rfl, rfl, masked, rfl⟩

/-! The step of a running CPU. -/

theorem State.atBoundary_setRun_of_no_requests {s : State} (hrun : s.run = .running) (h : s.input.requests = []) :
    s.atBoundary.setRun .running = s.dropInput := by
  rw [State.atBoundary, State.applyInput_none _ _ h]
  apply State.eq_of_fields <;> simp [hrun]

theorem State.prepare_of_afterPlp_eq_false {s : State} (h : s.window.afterPlp = false) (i : Instr) : s.prepare i = s := by
  simp [State.prepare, State.plpHazard, h]

theorem State.settledPS_of_windows_closed {s : State} (hplp : s.window.afterPlp = false) (i : Instr) (after : PS)
    (hdec : s.window.afterDecimal = false ∨ i.mnemonic.writesCarryOrDecimal = false) : s.settledPS i after = after := by
  rcases hdec with hdec | hdec <;> simp [State.settledPS, State.plpHazard, hplp, hdec]

theorem step_of_exec {s t : State} {i : Instr} (h : RunsInstr s i) (he : exec i (s.dropInput.prepare i) = .next t) :
    step s = .next (s.dropInput.settle false i t) := by
  obtain ⟨hrun, hquiet, hnone, hfetch⟩ := h
  rw [step_awake (by rw [hquiet]; rfl) (.inl hrun), s.atBoundary_quiet hrun hquiet, hquiet]
  exact runBoundary_instr (.inr hnone) hfetch he

theorem step_of_exec_refused {s : State} {i : Instr} {r : Refusal} (h : RunsInstr s i)
    (he : exec i (s.dropInput.prepare i) = .refused r) : step s = .refused r := by
  obtain ⟨hrun, hquiet, hnone, hfetch⟩ := h
  have hfetch' : s.dropInput.fetch = .ok i := hfetch
  rw [step_quiet hrun hquiet hnone]
  simp only [State.runInstruction, hfetch', he]

/-- A postponed boundary runs the instruction, and keeps the forced sources forced (R355). -/
theorem mem_forced_settle_postponed {s : State} {k : Nat} (hk : k ∈ s.window.forced) (i : Instr) (t : State) :
    k ∈ (s.settle true i t).window.forced := by
  simp [windowAfter, hk]

theorem State.settle_latch (s : State) (p : Bool) (i : Instr) (t : State) (l : BitLoc) :
    (s.settle p i t).latch l = t.latch l := rfl

/-- Settles O39: the boundary lets the instruction run, where nothing is acceptable or recognition is postponed. -/
theorem stepRunsTheDecodedInstruction : Obligations.StepRunsTheDecodedInstruction := by
  refine ⟨fun s i h => ⟨fun t he => step_of_exec h he, fun r he => step_of_exec_refused h he⟩, ?_, fun _ => rfl,
    fun s i h => s.prepare_of_afterPlp_eq_false h i, ?_⟩
  · intro s t i hrun hinput hfetch he
    refine ⟨_, ?_, rfl, fun l => s.dropInput.settle_latch true i t l, fun k hk => mem_forced_settle_postponed hk i t⟩
    rw [step_awake (by rw [hinput]) (.inl hrun), s.atBoundary_setRun_of_no_requests hrun (by rw [hinput]), hinput]
    exact runBoundary_instr (.inl rfl) hfetch he
  · intro s t i hplp hdec
    rw [State.settle, State.settledPS_of_windows_closed hplp i _ (.inl hdec)]
    rfl

/-! The stopped states. -/

theorem exec_stp_and_wit (s : State) :
    exec .stp s = .next ((s.setPc (s.pc + 1#16)).setRun .stoppedStp) ∧
      exec .wit s = .next ((s.setPc (s.pc + 1#16)).setRun .stoppedWit) := ⟨rfl, rfl⟩

/-- Settles O38: asleep, a step takes the environment's requests; a wake event makes it the step of a boundary. -/
theorem stpAndWitStopTheCpu : Obligations.StpAndWitStopTheCpu := by
  refine ⟨exec_stp_and_wit, fun s => ?_, fun s hrun hreset hwake => ?_, fun s w hrun hreset hwake hw => ?_⟩
  · refine ⟨?_, by simp, by simp, by simp, s.dropInput.applyInput_byteAt s.input,
      s.dropInput.applyInput_latch_other s.input, fun k hk src hsrc => ?_⟩
    · simp [SameRegs]
    · exact (s.dropInput.applyInput_requested s.input k src hsrc hk).1
  · rw [step_asleep hreset hrun hwake, State.tickOn, State.atBoundary_tick]
  · rw [step_awake hreset (.inr hwake), ← hw]
    have hpc : w.pc = s.pc := by simp [hw]
    refine ⟨fun hpostpone k src hnext => ?_, fun hquiet i t hfetch he => runBoundary_instr hquiet hfetch he⟩
    refine ⟨_, by rw [hpostpone]; exact runBoundary_entry hnext, rfl, by simp [hw], by simp [hw],
      fun hplain hspares => ?_⟩
    obtain ⟨hhi, hlo, -, -⟩ := State.enterInterrupt_frame hplain hspares
    exact ⟨hpc ▸ hhi, hpc ▸ hlo⟩

end Sys2Proof.Machine
end

section
/-! Reset (spec/70_reset_and_hazards.md section 1). -/

namespace Sys2Proof.Machine

/-- The registers that reset draws. -/
def State.drawRegisters (s : State) : State :=
  (((s.setA (Config.freeByte s.tick .resetA)).setX (Config.freeByte s.tick .resetX)).setY
    (Config.freeByte s.tick .resetY)).setSp (Config.freeByte s.tick .resetS)

/-- The Stack Page Selection Bit at its reset value, on a part that has it. -/
def State.resetSps (s : State) : State := if s.cfg.hasSps then s.setLatch (spsLoc s.cfg) s.cfg.spsReset else s

/-- What reset does to memory: SPS, then the two bits of each source. -/
theorem State.resetEvent_byteAt (s : State) (b : Addr) :
    s.resetEvent.byteAt b = (s.cfg.sources.foldl State.resetSource s.drawRegisters.resetSps).byteAt b := rfl

theorem State.resetEvent_latch (s : State) (l : BitLoc) :
    s.resetEvent.latch l = (s.cfg.sources.foldl State.resetSource s.drawRegisters.resetSps).latch l := rfl

theorem State.resetEvent_pc_toNat (s : State) : s.resetEvent.pc.toNat =
    256 * (s.resetEvent.read .vectorHi (s.cfg.vecReset + 1#16)).toNat +
      (s.resetEvent.read .vectorLo s.cfg.vecReset).toNat :=
  State.takeVector_pc_toNat _ _

theorem State.resetSource_latch (s : State) (src : IrqSource) (l : BitLoc) : (s.resetSource src).latch l =
    if l = src.enable then src.enableReset else if l = src.request then src.requestReset else s.latch l := by
  rw [State.resetSource, State.latch_setLatch, State.latch_setLatch]

theorem State.resetSources_latch_other (sources : List IrqSource) (s : State) {l : BitLoc}
    (h : l ∉ sources.flatMap fun k => [k.request, k.enable]) :
    (sources.foldl State.resetSource s).latch l = s.latch l := by
  induction sources generalizing s with
  | nil => rfl
  | cons src sources ih =>
    simp only [List.flatMap_cons, List.mem_append, List.mem_cons, List.not_mem_nil, or_false, not_or] at h
    rw [List.foldl_cons, ih _ h.2, State.resetSource_latch, if_neg h.1.2, if_neg h.1.1]

/-- A later source does not touch the bits of an earlier one where no two share a place. -/
theorem State.resetSources_latch (sources : List IrqSource) (s : State)
    (h : (sources.flatMap fun k => [k.request, k.enable]).Nodup) : ∀ src ∈ sources,
      (sources.foldl State.resetSource s).latch src.request = src.requestReset ∧
      (sources.foldl State.resetSource s).latch src.enable = src.enableReset := by
  induction sources generalizing s with
  | nil => simp
  | cons first sources ih =>
    rw [List.flatMap_cons, List.nodup_append'] at h
    obtain ⟨hfirst, hrest, hdisjoint⟩ := h
    intro src hsrc
    rcases List.mem_cons.mp hsrc with rfl | hsrc
    · have hne : src.request ≠ src.enable := by simpa using hfirst
      rw [List.foldl_cons, State.resetSources_latch_other _ _ (hdisjoint (by simp)),
        State.resetSources_latch_other _ _ (hdisjoint (by simp)), State.resetSource_latch, State.resetSource_latch]
      simp [hne]
    · exact ih _ hrest src hsrc

theorem State.resetSources_byteAt (sources : List IrqSource) (s : State) {b : Addr}
    (h : ∀ src ∈ sources, src.request.addr ≠ b ∧ src.enable.addr ≠ b) :
    (sources.foldl State.resetSource s).byteAt b = s.byteAt b := by
  induction sources generalizing s with
  | nil => rfl
  | cons src sources ih =>
    obtain ⟨hrequest, henable⟩ := h src List.mem_cons_self
    rw [List.foldl_cons, ih _ fun other hother => h other (List.mem_cons_of_mem _ hother), State.resetSource,
      State.byteAt_setLatch, if_neg henable.symm, State.byteAt_setLatch, if_neg hrequest.symm]

theorem mem_controlBits (c : Config) (l : BitLoc) : l ∈ controlBits c ↔
    (c.hasSps = true ∧ l = spsLoc c) ∨ ∃ src ∈ c.sources, l = src.request ∨ l = src.enable := by
  cases h : c.hasSps <;> simp [controlBits, h]

theorem State.resetSps_latch (s : State) (h : s.cfg.hasSps = true) : s.resetSps.latch (spsLoc s.cfg) = s.cfg.spsReset := by
  rw [State.resetSps, if_pos h, State.latch_setLatch_self]

theorem State.resetSps_byteAt (s : State) {b : Addr} (h : s.cfg.hasSps = true → (spsLoc s.cfg).addr ≠ b) :
    s.resetSps.byteAt b = s.byteAt b := by
  unfold State.resetSps
  split
  · rw [State.byteAt_setLatch, if_neg (h (by assumption)).symm]
  · rfl

/-- SPS comes first; no source's bit is at its place. -/
theorem State.resetEvent_latch_sps (s : State) (hsps : s.cfg.hasSps = true) (h : (controlBits s.cfg).Nodup) :
    s.resetEvent.latch (spsLoc s.cfg) = s.cfg.spsReset := by
  rw [controlBits, if_pos hsps, List.nodup_append'] at h
  obtain ⟨-, -, hdisjoint⟩ := h
  rw [State.resetEvent_latch, State.resetSources_latch_other _ _ (hdisjoint List.mem_cons_self)]
  exact s.drawRegisters.resetSps_latch hsps

theorem State.resetEvent_latch_source (s : State) (h : (controlBits s.cfg).Nodup) : ∀ src ∈ s.cfg.sources,
    s.resetEvent.latch src.request = src.requestReset ∧ s.resetEvent.latch src.enable = src.enableReset :=
  State.resetSources_latch _ _ (List.nodup_append'.mp h).2.1

theorem State.resetEvent_byteAt_other (s : State) {b : Addr} (h : ∀ l ∈ controlBits s.cfg, l.addr ≠ b) :
    s.resetEvent.byteAt b = s.byteAt b := by
  have hsources : ∀ src ∈ s.cfg.sources, src.request.addr ≠ b ∧ src.enable.addr ≠ b := fun src hsrc =>
    ⟨h _ ((mem_controlBits _ _).mpr (.inr ⟨src, hsrc, .inl rfl⟩)),
      h _ ((mem_controlBits _ _).mpr (.inr ⟨src, hsrc, .inr rfl⟩))⟩
  rw [State.resetEvent_byteAt, State.resetSources_byteAt _ _ hsources]
  exact s.drawRegisters.resetSps_byteAt fun hsps => h _ ((mem_controlBits _ _).mpr (.inl ⟨hsps, rfl⟩))

/-- Settles O42: reset writes control bits alone to memory, and each of them once. -/
theorem resetEventRestartsTheMachine : Obligations.ResetEventRestartsTheMachine := by
  intro s e rest hscript hreset
  have hinput : s.input = e := by simp [State.input, hscript]
  have hstep : step s = .next s.dropInput.resetEvent.tickOn := by simp [step, stepOnce, hinput, hreset]
  exact ⟨s.dropInput.resetEvent, by rw [hstep]; simp [State.tickOn], by simp, by simp, by simp, by simp, by simp,
    by simp [hscript], s.dropInput.resetEvent_pc_toNat,
    fun h => ⟨fun hsps => s.dropInput.resetEvent_latch_sps hsps h, s.dropInput.resetEvent_latch_source h⟩,
    fun b hb => s.dropInput.resetEvent_byteAt_other hb⟩

end Sys2Proof.Machine
end

section
/-! The hazard windows (spec/70_reset_and_hazards.md section 3) and what a device request does at the boundary
(spec/60_exceptions.md section 1). -/

namespace Sys2Proof.Machine

/-! The PLP window (R353) and the decimal window (R356). -/

theorem Instr.eq_plp_iff (i : Instr) : i.mnemonic = .plp ↔ i = .plp := by
  cases i <;> simp [Instr.mnemonic]

theorem Mnemonic.writesCarryOrDecimal_eq_false {m : Mnemonic} (h : m ∉ [.sec, .clc, .cld]) :
    m.writesCarryOrDecimal = false := by
  simpa [Mnemonic.writesCarryOrDecimal, and_assoc] using h

/-- Outside the decimal window the flags after a step are those of the instruction where it writes them and the old
ones elsewhere, in the PLP window as out of it. -/
theorem settledPS_eq_merge {s u : State} {i : Instr} (he : exec i (s.prepare i) = .next u)
    (hdec : s.window.afterDecimal = false ∨ i.mnemonic.writesCarryOrDecimal = false) :
    s.settledPS i u.ps = PS.merge i.mnemonic.flagsWritten u.ps s.ps := by
  have hsettled : s.settledPS i u.ps = if s.plpHazard i then PS.merge i.mnemonic.flagsWritten u.ps s.ps else u.ps := by
    rcases hdec with hdec | hdec <;> simp [State.settledPS, hdec]
  rw [hsettled]
  split
  · rfl
  · rename_i hplp
    have hps := exec_ps he
    rwa [State.prepare, if_neg hplp] at hps

theorem State.plpHazard_eq_false {s : State} (h : s.cfg.part.plpNeedsNop = false ∨ s.window.afterPlp = false)
    (i : Instr) : s.plpHazard i = false := by
  rcases h with h | h <;> simp [State.plpHazard, h]

/-- Settles O56: what `settledPS_eq_merge` says of each flag. -/
theorem plpWindowLeavesThePulledFlags : Obligations.PlpWindowLeavesThePulledFlags := by
  intro s t i hi ht
  obtain ⟨u, he, rfl⟩ := step_runs hi ht
  refine ⟨by simp [windowAfter, Instr.eq_plp_iff], fun hwindow => ?_⟩
  have hdec := hwindow.imp_right Mnemonic.writesCarryOrDecimal_eq_false
  have hps : (s.dropInput.settle false i u).ps = PS.merge i.mnemonic.flagsWritten u.ps s.ps := settledPS_eq_merge he hdec
  rw [hps]
  refine ⟨by rintro rfl; rfl, fun h => ?_, fun h => ?_, fun h => ?_, fun h => ?_, fun h => ?_, fun h => ?_, fun h => ?_,
    fun hplp => ⟨u, ?_, ?_⟩⟩
  case refine_8 =>
    rwa [State.prepare, if_neg (by simp [State.plpHazard_eq_false (s := s.dropInput) hplp])] at he
  case refine_9 =>
    rw [← hps, State.settle_ps]
    rcases hdec with hdec | hdec <;> simp [State.settledPS, State.plpHazard_eq_false (s := s.dropInput) hplp, hdec]
  all_goals simp [PS.merge, h]

theorem eq_of_writesCarryOrDecimal {i : Instr} (hi : i.mnemonic ∈ [.sec, .clc, .cld]) :
    i = .sec ∨ i = .clc ∨ i = .cld := by
  cases i <;> first | (simp [Instr.mnemonic] at hi; done) | simp

/-- The decimal window leaves open C and D alone. -/
theorem settledPS_other {s : State} (hplp : s.window.afterPlp = false) (i : Instr) (p : PS) :
    (s.settledPS i p).n = p.n ∧ (s.settledPS i p).v = p.v ∧ (s.settledPS i p).t = p.t ∧ (s.settledPS i p).i = p.i ∧
      (s.settledPS i p).z = p.z := by
  simp only [State.settledPS, State.plpHazard_eq_false (.inr hplp)]
  split <;> exact ⟨rfl, rfl, rfl, rfl, rfl⟩

/-- SEC, CLC and CLD write C or D and nothing else but PC. -/
theorem exec_of_writesCarryOrDecimal {s u : State} {i : Instr} (hi : i.mnemonic ∈ [.sec, .clc, .cld])
    (he : exec i s = .next u) : PastInstr i s u ∧ SameRegs s u ∧ SameMemory s u ∧
      u.ps.n = s.ps.n ∧ u.ps.v = s.ps.v ∧ u.ps.t = s.ps.t ∧ u.ps.i = s.ps.i ∧ u.ps.z = s.ps.z := by
  rcases eq_of_writesCarryOrDecimal hi with rfl | rfl | rfl <;> cases he <;>
    exact ⟨rfl, ⟨rfl, rfl, rfl, rfl⟩, fun _ => rfl, rfl, rfl, rfl, rfl, rfl⟩

/-- Settles O57: outside the PLP window an instruction runs on the state as it is, and only SEC, CLC and CLD are
settled otherwise than they ran. -/
theorem decimalWindowAffectsOnlyCAndD : Obligations.DecimalWindowAffectsOnlyCAndD := by
  intro s t i hi ht hplp
  obtain ⟨u, he, rfl⟩ := step_runs hi ht
  have hprepare := s.dropInput.prepare_of_afterPlp_eq_false hplp i
  rw [hprepare] at he
  refine ⟨?_, fun hmem => ?_, fun hmem => ⟨u, he, ?_⟩⟩
  · simp [windowAfter, hprepare, Mnemonic.addsOrSubtracts]
  · obtain ⟨hpc, hregs, hmemory, hn, hv, ht', hi', hz⟩ := exec_of_writesCarryOrDecimal hmem he
    obtain ⟨sn, sv, st, si, sz⟩ := settledPS_other (s := s.dropInput) hplp i u.ps
    exact ⟨hpc, hregs, hmemory, sn.trans hn, sv.trans hv, st.trans ht', si.trans hi', sz.trans hz⟩
  · exact State.settledPS_of_windows_closed hplp i _ (.inr (Mnemonic.writesCarryOrDecimal_eq_false hmem))

/-! Request bits that an instruction changed (R354). -/

theorem mem_sourcesWhere_zero {f : IrqSource → Bool} {l : List IrqSource} {k : Nat} {src : IrqSource}
    (hk : l[k]? = some src) : k ∈ sourcesWhere f 0 l ↔ f src = true := by
  simp [mem_sourcesWhere, hk]

/-- RAM and ROM give every bit held; elsewhere the map fills in only the bits that are no control bits. -/
theorem State.getLsbD_sourceByte (s : State) (acc : Access) (a : Addr) (j : Nat)
    (h : readRuleOf (kindAt s.cfg a) = .held ∨ (maskAt (controlBits s.cfg) (locate s.cfg a)).getLsbD j = true) :
    (s.sourceByte acc a).getLsbD j = (s.byteAt (locate s.cfg a)).getLsbD j := by
  unfold State.sourceByte
  split
  · rfl
  all_goals
    rename_i hrule
    simp [hrule] at h
    simp [h]

theorem State.getLsbD_read_settled {s : State} {acc : Access} {a : Addr} {j : Nat} (hj : j < 8)
    (hfresh : (s.freshMask (locate s.cfg a)).getLsbD j = false)
    (h : readRuleOf (kindAt s.cfg a) = .held ∨ (maskAt (controlBits s.cfg) (locate s.cfg a)).getLsbD j = true) :
    (s.read acc a).getLsbD j = (s.byteAt (locate s.cfg a)).getLsbD j := by
  rw [s.getLsbD_read acc a j hj, hfresh]
  exact s.getLsbD_sourceByte acc a j h

theorem locate_of_stored {c : Config} {a : Addr} (h : mapAt c a = .ram ∨ ∃ w, mapAt c a = .rom w) :
    locate c a = a ∧ readRuleOf (kindAt c a) = .held := by
  rcases h with h | ⟨w, h⟩ <;> simp [locate, kindAt, h, readRuleOf]

/-- Settles O58: `windowAfter` compares the request bits, and a read draws only the bits that it lists. -/
theorem writtenRequestBitsSettleAfterOneInstruction : Obligations.WrittenRequestBitsSettleAfterOneInstruction := by
  refine ⟨fun s t i hi ht k src hk => ?_, fun s acc a j hj => ⟨fun hmap hfresh => ?_, fun hfresh hbit => ?_⟩⟩
  · obtain ⟨u, -, rfl⟩ := step_runs hi ht
    exact (mem_sourcesWhere_zero hk).trans bne_iff_ne
  · obtain ⟨hplace, hrule⟩ := locate_of_stored hmap
    rw [← hplace] at hfresh
    rw [State.getLsbD_read_settled hj hfresh (.inl hrule), hplace]
  · exact State.getLsbD_read_settled hj hfresh (.inr ((getLsbD_maskAt _ _ _ hj).mpr hbit))

/-! A source whose request bit was cleared while it was enabled (R355). -/

theorem acceptable_of_forced {s : State} {k : Nat} {src : IrqSource} (hforced : k ∈ s.window.forced)
    (henable : s.latch src.enable = true) (hi : s.ps.i = false) : s.acceptable k src = true := by
  simp [State.acceptable, State.requestSeen, hforced, henable, hi]

/-- A postponed boundary that is no reset keeps the forced sources forced, asleep or awake. -/
theorem step_postponed_forced {s t : State} {k : Nat} (hpostpone : s.input.postpone = true)
    (hreset : s.input.reset = false) (hk : k ∈ s.window.forced) (h : step s = .next t) : k ∈ t.window.forced := by
  have hboundary : k ∈ s.atBoundary.window.forced := by
    rw [State.atBoundary, State.applyInput_forced]
    exact hk
  rcases step_cases h with ⟨hreset', -⟩ | ⟨-, -, rfl⟩ | ⟨-, -, hpostpone', -⟩ | ⟨-, -, -, i, u, -, -, rfl⟩
  · simp [hreset] at hreset'
  · exact hboundary
  · simp [hpostpone] at hpostpone'
  · rw [hpostpone]
    exact mem_forced_settle_postponed hboundary i u

/-- A quiet boundary of a running CPU at which some source is acceptable enters an interrupt, which sets I (R314). -/
theorem step_quiet_entry {s : State} {k : Nat} {src : IrqSource} (hrun : s.run = .running) (hquiet : s.input = .quiet)
    (hnext : s.nextInterrupt = some (k, src)) : ∃ t, step s = .next t ∧ t.ps = { s.ps with i := true } := by
  have hnext' : s.dropInput.nextInterrupt = some (k, src) := hnext
  rw [step_awake (by rw [hquiet]; rfl) (.inl hrun), s.atBoundary_quiet hrun hquiet, hquiet]
  exact ⟨_, runBoundary_entry hnext', s.dropInput.enterInterrupt_ps src⟩

/-- Settles O59: the instruction step forces the source, and a forced source counts as requested. -/
theorem clearingWithEnablingStillInterrupts : Obligations.ClearingWithEnablingStillInterrupts := by
  intro s t i k src hi ht hk hrequest hcleared hdisabled henabled hunmasked
  obtain ⟨hcfg, -, -⟩ := stepKeepsTheParameters s t ht
  have hforced : k ∈ t.window.forced := by
    obtain ⟨u, -, rfl⟩ := step_runs hi ht
    rw [State.settle_latch] at hcleared henabled
    have hrequest' : s.dropInput.latch src.request = true := hrequest
    have hdisabled' : s.dropInput.latch src.enable = false := hdisabled
    have hunmasked' : (s.dropInput.settledPS i u.ps).i = false := hunmasked
    exact (mem_sourcesWhere_zero hk).mpr (by simp [hrequest', hcleared, hdisabled', henabled, hunmasked'])
  have hacceptable := acceptable_of_forced hforced henabled hunmasked
  obtain ⟨j, other, hnext, hjk, -⟩ := t.nextInterrupt_of_acceptable k src (hcfg ▸ hk) hacceptable
  exact ⟨hacceptable, ⟨j, other, hnext, hjk, fun hrun hquiet => step_quiet_entry hrun hquiet hnext⟩,
    fun hpostpone hreset u hu => step_postponed_forced hpostpone hreset hforced hu⟩

/-! A device request (R311). -/

theorem State.atBoundary_setRun {s : State} (h : s.run = .running) : s.atBoundary.setRun .running = s.atBoundary := by
  apply State.eq_of_fields <;> simp [h]

/-- The request bit is 1 at the boundary, and settled. -/
theorem State.atBoundary_requestSeen {s : State} {k : Nat} {src : IrqSource} (hk : k ∈ s.input.requests)
    (hsrc : s.cfg.sources[k]? = some src) :
    s.atBoundary.latch src.request = true ∧ s.atBoundary.requestSeen k src = true := by
  obtain ⟨hlatch, hsettled⟩ := s.dropInput.applyInput_requested s.input k src hsrc hk
  exact ⟨hlatch, by simp [State.requestSeen, State.atBoundary, hlatch, hsettled]⟩

/-- Settles O60: the source is acceptable at the boundary, which enters it or one before it unless I or the environment
holds the recognition back. -/
theorem deviceRequestIsTakenAtTheBoundary : Obligations.DeviceRequestIsTakenAtTheBoundary := by
  rintro s b k src hrun hreset hk hsrc henable rfl
  obtain ⟨hlatch, hseen⟩ := State.atBoundary_requestSeen hk hsrc
  have hstep : step s = s.atBoundary.runBoundary s.input.postpone := by
    rw [step_awake hreset (.inl hrun), State.atBoundary_setRun hrun]
  refine ⟨fun hi hpostpone => ?_, fun hheld => ⟨hlatch, fun i t hfetch he => ?_⟩⟩
  · have henabled : s.atBoundary.latch src.enable = true := (s.dropInput.applyInput_sets s.input).1 _ henable
    have hacceptable : s.atBoundary.acceptable k src = true := by simp [State.acceptable, hseen, henabled, hi]
    obtain ⟨j, other, hnext, hjk, hother⟩ :=
      s.atBoundary.nextInterrupt_of_acceptable k src (by simpa using hsrc) hacceptable
    rw [hstep, hpostpone]
    exact ⟨j, other, runBoundary_entry hnext, by simpa using hother, hjk⟩
  · have hnone : s.input.postpone = true ∨ s.atBoundary.nextInterrupt = none :=
      hheld.symm.imp_right fun hi => s.atBoundary.nextInterrupt_masked (by simpa using hi)
    refine ⟨_, hstep.trans (runBoundary_instr hnone hfetch he), rfl, State.settle_latch _ _ _ _ _,
      fun hpostpone j hj => ?_⟩
    rw [hpostpone]
    refine mem_forced_settle_postponed ?_ i t
    rw [State.atBoundary, State.applyInput_forced]
    exact hj

end Sys2Proof.Machine
end
